-- ==== Sys2Proof/Word.lean ====
section
/-! DEFINITION. The data widths of the Cipher Engine (spec/00_scope.md R8, R9): a byte is 8 bits, a word is 32 bits,
every quantity is unsigned. `a ^^^ b` on words is the rule's `a ^ b`, and `a + b` on words is the rule's `a +32 b`,
addition modulo 2^32 whose carry is dropped. -/

namespace Sys2Proof

/-- A byte: 8 bits, bit 0 least significant (R8). -/
abbrev Byte := BitVec 8

/-- A word: 32 bits, bit 31 most significant (R8; WORD_BITS of R6). -/
abbrev Word := BitVec 32

/-- A block: exactly eight bytes, byte 0 first (R14 "Block"; BLOCK_BYTES of R6). -/
abbrev Block := Vector Byte 8

/-- A host register address: 7 bits (ADDR_W of R7, R50). -/
abbrev Addr := BitVec 7

end Sys2Proof
end

