-- ==== Sys2Proof/Syntax.lean ====
section
/-! DEFINITION. The commands of the engine, one constructor per row of spec/opcode_table.json (spec/30_encoding.md R71).
A command has no explicit operand: every operand is a named register (R70, R75). The 251 other bytes are not commands
(R72); they have no constructor and are handled where a byte reaches CMD (Machine/Port.lean). -/

namespace Sys2Proof

/-- The five commands of R71. -/
inductive Instr where
  /-- opcode 0x00 (R140) -/
  | nop
  /-- opcode 0x01 (R90) -/
  | expand
  /-- opcode 0x02 (R118) -/
  | encrypt
  /-- opcode 0x03 (R127) -/
  | decrypt
  /-- opcode 0x04 (R141) -/
  | drop
deriving DecidableEq, Repr

end Sys2Proof
end

