-- ==== Sys2Proof/WellFormed.lean ====
section
/-! DEFINITION. Well-formedness. "All eight bits are the opcode; there is no other field" (spec/30_encoding.md R70), so
a command has no operand that could be out of range and every term of `Instr` is well formed. The one place where the
spec bounds a term it writes is the key of `LOADKEY` and `SETKEY` ("n from 0 to 56", R77): that check is
`keyOperandWellFormed`, and `PseudoOp.wellFormed` of Machine/HostOps.lean calls it. -/

namespace Sys2Proof

/-- A command carries no field to check (R70). -/
def Instr.wellFormed : Instr → Bool
  | .nop => true
  | .expand => true
  | .encrypt => true
  | .decrypt => true
  | .drop => true

/-- The key bytes a pseudo-operation may name: at most the 56 KEY registers (R77, KEYBUF_BYTES of R7). -/
def keyOperandWellFormed (bytes : List Byte) : Bool :=
  decide (bytes.length ≤ 56)

end Sys2Proof
end

