-- ==== Sys2Proof/Decode.lean ====
section
/-! DEFINITION. The command decoder and encoder (spec/30_encoding.md R70 to R72): format CMD8, one byte, mask 0xFF. The
decoder is total on all 256 bytes and rejects the 251 illegal ones by the spec's own name for them. -/

namespace Sys2Proof

/-- Why a byte is no command (R72): IllegalCommand, with the byte. -/
inductive DecodeReject where
  | illegalCommand (v : Byte)
deriving DecidableEq, Repr

/-- The command a byte written to CMD selects, or its rejection (R71, R72). -/
def decode (v : Byte) : Except DecodeReject Instr :=
  match v.toNat with
  | 0x00 => .ok .nop
  | 0x01 => .ok .expand
  | 0x02 => .ok .encrypt
  | 0x03 => .ok .decrypt
  | 0x04 => .ok .drop
  | _ => .error (.illegalCommand v)

/-- The opcode byte of a command, from the column OPCODE of R71. -/
def encode : Instr → Byte
  | .nop => 0x00#8
  | .expand => 0x01#8
  | .encrypt => 0x02#8
  | .decrypt => 0x03#8
  | .drop => 0x04#8

/-- The decoder's answer on a word numbered as spec/opcode_table.json numbers it: one byte, bit 0 least significant.
A command is exactly one byte (R70), so a word of more than eight bits is none (DESIGN CHOICE, log entry 13). -/
def decodeTableWord (nbits w : Nat) : Option Instr :=
  if nbits ≤ 8 ∧ w < 2 ^ nbits then
    match decode (BitVec.ofNat 8 w) with
    | .ok i => some i
    | .error (.illegalCommand _) => none
  else
    none

end Sys2Proof
end

