-- ==== Sys2Proof/Config.lean ====
section
/-! DEFINITION. What is fixed for the machine and what the spec leaves open. The parameters of R6 are constants; the
open wait-state counts of R7 and the unspecified table words of R36 and R141 are opaque constants, so that no proof can
learn a value of them. -/

namespace Sys2Proof.Config

/-- KEY_MIN of R6: the least key length in bytes, inclusive. -/
abbrev keyMin : Nat := 4

/-- KEY_MAX of R6: the greatest key length in bytes, inclusive. -/
abbrev keyMax : Nat := 56

/-- T_EXPAND of R7 and R63: the wait states of an EXPAND that passes its length check; finite, otherwise open
(DESIGN CHOICE, log entry 7). -/
opaque tExpand : Nat

/-- T_BLOCK of R7 and R63: the wait states of an ENCRYPT or DECRYPT that finds an instance; finite, otherwise open
(DESIGN CHOICE, log entry 7). -/
opaque tBlock : Nat

/-- FREE VALUE. Word `index` (0 to 1041) of the key-dependent tables the `draw`-th time the spec leaves their contents
unspecified (R36 after reset, R141 after DROP; spec/93_implementation_defined.md U1 and U2; DESIGN CHOICE, log entry 1). It
has no engine index: every engine draws from this one constant (DESIGN CHOICE, log entry 15). -/
opaque freeWord (draw index : Nat) : Word

end Sys2Proof.Config
end

