-- ==== Sys2Proof/Machine/State.lean ====
section
/-! DEFINITION. The architectural state of one engine (spec/10_state.md R20), the host events it reacts to, the register
names of its address map, its error names, and its reset state (R36). The model's own fields (`draws`, `pending`,
`replies`) stand apart at the end of `State`. The engine has no data memory, no program counter and no hidden state
between commands (R32, R35, R50), so State has no field for them. -/

namespace Sys2Proof.Machine

/-- One S-box: 256 words (R22). -/
abbrev SBox := Vector Word 256

/-- The four S-boxes S[0] to S[3] (R22). -/
abbrev SBoxes := Vector SBox 4

/-- The two key-dependent tables an instance owns (R2, R21, R22). `P[i]` of the spec, i from 1 to 18, is at position
i - 1 of `P`; `S[k][j]` is at position j of box k. -/
structure Tables where
  P : Vector Word 18
  S : SBoxes
deriving DecidableEq, Repr

/-- One event at the host port, as R76 writes it: `RD a`, `WR a, v`, or `RESET` (R11, R50, R180). -/
inductive HostEvent where
  | read (a : Addr)
  | write (a : Addr) (v : Byte)
  | reset
deriving DecidableEq, Repr

/-- The registers of the address map (R51); `reserved` stands for every address that is no register. -/
inductive RegName where
  | cmd
  | status
  | keylen
  | din (i : Fin 8)
  | dout (i : Fin 8)
  | key (i : Fin 56)
  | reserved
deriving DecidableEq, Repr

/-- The error outcomes of R160. `invalidBlockLength` is named by the document and raised by nothing (R163). -/
inductive EngineError where
  | invalidKeyLength
  | invalidBlockLength
  | noInstance
  | illegalCommand
deriving DecidableEq, Repr

/-- The state of one engine: every row of R20, then the model's own fields. -/
structure State where
  /-- P[1..18] and S[0..3][0..255]; no host address (R23) -/
  tables : Tables
  /-- STATUS.KEYED: the engine holds an instance (R25) -/
  keyed : Bool
  /-- STATUS.ERR: the outcome of the most recent command (R26) -/
  err : BitVec 3
  /-- KEYLEN, the key length in bytes (R27, R29) -/
  keylen : Byte
  /-- KEY[0..55], write only (R27, R29) -/
  key : Vector Byte 56
  /-- DIN[0..7] (R30) -/
  din : Block
  /-- DOUT[0..7] (R30) -/
  dout : Block
  /-- MODEL'S OWN: how many times the tables' contents were left unspecified so far; it numbers the free values
  (DESIGN CHOICE, log entry 1) -/
  draws : Nat
  /-- MODEL'S OWN: the host's events not yet performed, in the order presented (R58; DESIGN CHOICE, log entry 3) -/
  pending : List HostEvent
  /-- MODEL'S OWN: the bytes reads have returned to the host, oldest first (the pin h_rdata of R63; DESIGN CHOICE, log entry 4) -/
  replies : List Byte
deriving DecidableEq, Repr

/-- Why a step could fault: never. "No access raises an error, and no access of any kind is refused" (R52), and a
command's error is an outcome in STATUS.ERR with a next state (R160, R165), so the type has no constructor and nothing
raises it (DEDUCED, log entry 12). -/
inductive Fault
deriving DecidableEq, Repr

/-- Why the model could have no meaning for an instruction. -/
inductive Refusal where
  /-- Raised only by an arm of `exec` that has no meaning yet; every arm has one, so nothing raises it (safe). -/
  | notModelled (mnemonic : String)
deriving DecidableEq, Repr

/-- The tables with unspecified contents: every word is a free value of the given draw (R36, R141; DESIGN CHOICE, log
entry 1). Two engines at the same draw number get the same words, where the spec leaves open whether their unspecified tables
are related (DESIGN CHOICE, log entry 15). -/
@[irreducible] def Tables.unspecified (draw : Nat) : Tables where
  P := Vector.ofFn fun i => Config.freeWord draw i.val
  S := Vector.ofFn fun k => Vector.ofFn fun j => Config.freeWord draw (18 + 256 * k.val + j.val)

/-- The state after reset (R36, R180): KEYED, ERR, KEYLEN, KEY, DIN and DOUT are zero, P and S are unspecified. The
model's own fields: the reset took draw 0, and the host has presented nothing yet (R182; DESIGN CHOICE,
log entries 1, 2). -/
def State.reset : State where
  tables := Tables.unspecified 0
  keyed := false
  err := 0
  keylen := 0
  key := Vector.replicate 56 0
  din := Vector.replicate 8 0
  dout := Vector.replicate 8 0
  draws := 1
  pending := []
  replies := []

end Sys2Proof.Machine
end

