-- ==== Sys2Proof/Machine/Operands.lean ====
section
/-! DEFINITION. Where commands find their operands: the address map (spec/20_memory.md R51), the byte and word packing
(spec/44_packing.md R135 to R138), and the key in the KEY and KEYLEN registers (spec/10_state.md R29). -/

namespace Sys2Proof.Machine

/-- The register at an address, by the map of R51. -/
def regAt (a : Addr) : RegName :=
  if a.toNat = 0x00 then .cmd
  else if a.toNat = 0x01 then .status
  else if a.toNat = 0x02 then .keylen
  else if h : 0x08 ≤ a.toNat ∧ a.toNat ≤ 0x0F then .din ⟨a.toNat - 0x08, by omega⟩
  else if h : 0x10 ≤ a.toNat ∧ a.toNat ≤ 0x17 then .dout ⟨a.toNat - 0x10, by omega⟩
  else if h : 0x40 ≤ a.toNat ∧ a.toNat ≤ 0x77 then .key ⟨a.toNat - 0x40, by omega⟩
  else .reserved

/-- Pack32 (R135): b0 in bits 31:24, b1 in 23:16, b2 in 15:8, b3 in 7:0 (DEDUCED, log entry 5: the spec's C1). -/
def pack32 (b0 b1 b2 b3 : Byte) : Word :=
  b0 ++ b1 ++ b2 ++ b3

/-- Unpack32 (R136): the bytes at bits 31:24, 23:16, 15:8, 7:0, in that order. -/
def unpack32 (w : Word) : Vector Byte 4 :=
  #v[w.extractLsb' 24 8, w.extractLsb' 16 8, w.extractLsb' 8 8, w.extractLsb' 0 8]

/-- Left and Right, the two 32-bit halves of a block (R14, R34). -/
structure Halves where
  left : Word
  right : Word
deriving DecidableEq, Repr

/-- The exchange of the two halves (R115). -/
def Halves.swap (x : Halves) : Halves :=
  ⟨x.right, x.left⟩

/-- PackBlock (R137): bytes 0 to 3 are Left, bytes 4 to 7 are Right. -/
def packBlock (b : Block) : Halves where
  left := pack32 b[0] b[1] b[2] b[3]
  right := pack32 b[4] b[5] b[6] b[7]

/-- UnpackBlock (R137): the bytes of Left, then the bytes of Right. -/
def unpackBlock (x : Halves) : Block :=
  unpack32 x.left ++ unpack32 x.right

/-- A key: a byte string of legal length (R6, R92). Its content is never a reason for failure (R92). -/
structure Key where
  bytes : List Byte
  legal : Config.keyMin ≤ bytes.length ∧ bytes.length ≤ Config.keyMax
deriving DecidableEq, Repr

/-- Byte n of the endless cyclic stream K[0], ..., K[L-1], K[0], ... (R94, R138: the index wraps per byte). -/
def Key.byteAt (k : Key) (n : Nat) : Byte :=
  k.bytes[n % k.bytes.length]'(Nat.mod_lt _ (Nat.lt_of_lt_of_le (by decide) k.legal.1))

/-- KeyWord (R138): the spec's `KeyWord(K, L, i + 1)`, i counting from 0, so that base = 4 * i. -/
def keyWord (k : Key) (i : Fin 18) : Word :=
  pack32 (k.byteAt (4 * i.val)) (k.byteAt (4 * i.val + 1)) (k.byteAt (4 * i.val + 2)) (k.byteAt (4 * i.val + 3))

/-- The key in 56 key bytes and a length: the first `length` bytes, if that is a legal length (R29, R92). Bytes at
positions `length` and above are not read (R100 (d)). -/
def keyOf (length : Byte) (regs : Vector Byte 56) : Option Key :=
  if h : Config.keyMin ≤ length.toNat ∧ length.toNat ≤ Config.keyMax then
    some ⟨regs.toList.take length.toNat, by
      rw [List.length_take, Vector.length_toList, Nat.min_eq_left h.2]; exact h⟩
  else
    none

/-- The key EXPAND takes: KEY[0..L-1] with L = KEYLEN (R29, R90). -/
def registerKey (s : State) : Option Key :=
  keyOf s.keylen s.key

end Sys2Proof.Machine
end

