-- ==== Sys2Proof/Machine/Cipher.lean ====
section
/-! DEFINITION. The pure functions of the cipher: the round function F (spec/41_f_function.md R110), the Feistel
transformation of a block forward (spec/42_encrypt.md R115, R117) and backward (spec/43_decrypt.md R125, R126), and the
key schedule Expand (spec/40_key_expansion.md R91, R93 to R96). The transforms and Expand are irreducible, so that no
unification starts on their rounds; a proof unfolds them by name, and the kernel evaluates them all the same. -/

namespace Sys2Proof.Machine

/-- Entry b of an S-box; an index is one byte, so it is always in range (R22). -/
def sboxAt (box : SBox) (b : Byte) : Word :=
  box[b.toNat]'b.isLt

/-- F (R110): `((S[0][b0] +32 S[1][b1]) ^ S[2][b2]) +32 S[3][b3]`, b0 the most significant byte of x. -/
def roundF (S : SBoxes) (x : Word) : Word :=
  let b0 := x.extractLsb' 24 8
  let b1 := x.extractLsb' 16 8
  let b2 := x.extractLsb' 8 8
  let b3 := x.extractLsb' 0 8
  ((sboxAt S[0] b0 + sboxAt S[1] b1) ^^^ sboxAt S[2] b2) + sboxAt S[3] b3

/-- One Feistel round with the P word at position i (R115): Left takes the P word, Right takes F of the new Left, then
the halves are exchanged. -/
def feistelRound (t : Tables) (x : Halves) (i : Fin 18) : Halves :=
  let left := x.left ^^^ t.P[i]
  let right := x.right ^^^ roundF t.S left
  Halves.swap ⟨left, right⟩

/-- The P positions of the 16 rounds of encryption: P[1] to P[16] (R115). -/
def encRounds : List (Fin 18) :=
  [0, 1, 2, 3, 4, 5, 6, 7, 8, 9, 10, 11, 12, 13, 14, 15]

/-- The P positions of the 16 rounds of decryption: P[18] down to P[3] (R125). -/
def decRounds : List (Fin 18) :=
  [17, 16, 15, 14, 13, 12, 11, 10, 9, 8, 7, 6, 5, 4, 3, 2]

/-- The output stage: the last exchange is undone, then Right and Left take a P word each (R115 steps 3 and 4). -/
def outputStage (t : Tables) (forRight forLeft : Fin 18) (x : Halves) : Halves :=
  let y := x.swap
  ⟨y.left ^^^ t.P[forLeft], y.right ^^^ t.P[forRight]⟩

/-- EncWords (R115): 16 rounds, then `Right ^= P[17]`, `Left ^= P[18]`. -/
@[irreducible] def encWords (t : Tables) (x : Halves) : Halves :=
  outputStage t 16 17 (encRounds.foldl (feistelRound t) x)

/-- DecWords (R125): the same structure with P in reverse order, then `Right ^= P[2]`, `Left ^= P[1]`. -/
@[irreducible] def decWords (t : Tables) (x : Halves) : Halves :=
  outputStage t 1 0 (decRounds.foldl (feistelRound t) x)

/-- EncBlock (R117). -/
@[irreducible] def encBlock (t : Tables) (b : Block) : Block :=
  unpackBlock (encWords t (packBlock b))

/-- DecBlock (R126). -/
@[irreducible] def decBlock (t : Tables) (b : Block) : Block :=
  unpackBlock (decWords t (packBlock b))

/-- Step 1 of key expansion (R93): every table word from the constants. -/
def initialTables : Tables :=
  ⟨piP, piS⟩

/-- Step 2 of key expansion (R94): every P word is XORed with its key word; S is not touched. -/
def mixKey (k : Key) (t : Tables) : Tables :=
  { t with P := Vector.ofFn fun i => t.P[i] ^^^ keyWord k i }

/-- The document's ExpandingState (R34): the tables under expansion and the running block (XL, XR). It lives inside one
EXPAND (DEDUCED, log entry 14). -/
structure Expanding where
  tables : Tables
  block : Halves
deriving DecidableEq, Repr

/-- One encryption of step 3 whose output replaces the P words at positions 2 * n and 2 * n + 1 (R95: Left to the lower
index). It reads the tables with every earlier replacement in place (R61). -/
def expandPPair (e : Expanding) (n : Fin 9) : Expanding :=
  let x := encWords e.tables e.block
  let P := (e.tables.P.set (2 * n.val) x.left).set (2 * n.val + 1) x.right
  ⟨{ e.tables with P := P }, x⟩

/-- One encryption of step 3 whose output replaces the entries 2 * m and 2 * m + 1 of S-box k (R95). -/
def expandSPair (k : Fin 4) (e : Expanding) (m : Fin 128) : Expanding :=
  let x := encWords e.tables e.block
  let box := (e.tables.S[k].set (2 * m.val) x.left).set (2 * m.val + 1) x.right
  ⟨{ e.tables with S := e.tables.S.set k.val box }, x⟩

/-- The 9 encryptions that replace the P-array (R91, R95). -/
def expandP (e : Expanding) : Expanding :=
  (List.finRange 9).foldl expandPPair e

/-- The 128 encryptions that replace S-box k (R91, R95). -/
def expandSBox (e : Expanding) (k : Fin 4) : Expanding :=
  (List.finRange 128).foldl (expandSPair k) e

/-- The 512 encryptions that replace the S-boxes, box 0 first (R91, R95). -/
def expandS (e : Expanding) : Expanding :=
  (List.finRange 4).foldl expandSBox e

/-- Steps 1 to 3 of key expansion with the last running block (R91, R95 (a): the block starts all zero). -/
@[irreducible] def expandingEnd (k : Key) : Expanding :=
  expandS (expandP ⟨mixKey k initialTables, ⟨0, 0⟩⟩)

/-- Expand (R91): the tables of a key. They depend on the key alone. -/
@[irreducible] def expand (k : Key) : Tables :=
  (expandingEnd k).tables

end Sys2Proof.Machine
end

