-- ==== Sys2Proof/Machine/Flags.lean ====
section
/-! DEFINITION. The status flags: ERR codes (spec/30_encoding.md R74) and the STATUS byte (R73). No other flag exists
(spec/10_state.md R26). -/

namespace Sys2Proof.Machine

/-- ERR of a command that succeeds (R74, code 0). -/
def okCode : BitVec 3 := 0

/-- ERR of each error (R74, R160). -/
def errorCode : EngineError → BitVec 3
  | .invalidKeyLength => 1
  | .invalidBlockLength => 2
  | .noInstance => 3
  | .illegalCommand => 4

/-- STATUS as a byte (R73, R52): `0 || ERR[2:0] || 000 || KEYED`. -/
def statusByte (keyed : Bool) (err : BitVec 3) : Byte :=
  (0 : BitVec 1) ++ err ++ (0 : BitVec 3) ++ BitVec.ofBool keyed

end Sys2Proof.Machine
end

