-- ==== Sys2Proof/Machine/Ops.lean ====
section
/-! DEFINITION. The named operations over the engine's state: ending a command with success or with an error
(spec/60_exceptions.md R165), reading and storing a register (spec/20_memory.md R52), losing the tables (R141), reset
(spec/70_reset_and_hazards.md R180). There is no return from an error, "because nothing was entered" (R168). -/

namespace Sys2Proof.Machine

/-- Taking an error, the one shared operation (R165): ERR takes the error's code and nothing else changes. No vector, no
saved state, no mode change. -/
def raise (e : EngineError) (s : State) : State :=
  { s with err := errorCode e }

/-- A command's success: ERR is 0 (R26, R74). -/
def succeed (s : State) : State :=
  { s with err := okCode }

/-- The tables' contents become unspecified: a fresh draw of free values (R141; DESIGN CHOICE, log entry 1). -/
def loseTables (s : State) : State :=
  { s with tables := Tables.unspecified s.draws, draws := s.draws + 1 }

/-- What a host read of a register returns (R52). CMD, KEY and reserved addresses read as 0x00 (R28, R29). -/
def readReg (s : State) : RegName → Byte
  | .cmd => 0x00
  | .status => statusByte s.keyed s.err
  | .keylen => s.keylen
  | .din i => s.din[i]
  | .dout i => s.dout[i]
  | .key _ => 0x00
  | .reserved => 0x00

/-- What a host write stores (R52): KEYLEN, DIN and KEY take the byte; STATUS, DOUT and reserved addresses ignore it. CMD
has no storage (R28): what a write to it starts is `runCommand` of Machine/Port.lean. -/
def storeReg (r : RegName) (v : Byte) (s : State) : State :=
  match r with
  | .cmd => s
  | .status => s
  | .keylen => { s with keylen := v }
  | .din i => { s with din := s.din.set i.val v }
  | .dout _ => s
  | .key i => { s with key := s.key.set i.val v }
  | .reserved => s

/-- BusRead (R52): the byte a host read of an address returns. -/
def busRead (s : State) (a : Addr) : Byte :=
  readReg s (regAt a)

/-- A host read as an event (R52): "a read changes no state"; its byte goes to the host. -/
def performRead (a : Addr) (s : State) : State :=
  { s with replies := s.replies ++ [busRead s a] }

/-- The reset event (R180): the reset state of R36 in one event, with a fresh draw for P and S. The host's queue and the
bytes it has received are the host's and stay (DESIGN CHOICE, log entries 3, 4). -/
def performReset (s : State) : State :=
  { State.reset with
    tables := Tables.unspecified s.draws
    draws := s.draws + 1
    pending := s.pending
    replies := s.replies }

end Sys2Proof.Machine
end

