-- ==== Sys2Proof/Machine/BlockCommands.lean ====
section
/-! DEFINITION. ENCRYPT (spec/42_encrypt.md R118) and DECRYPT (spec/43_decrypt.md R127). -/

namespace Sys2Proof.Machine

/-- The shape both block commands share (R118, R127): NoInstance if there is no instance, else DOUT takes the transform of
DIN under the tables. Nothing but DOUT and ERR is written. -/
def transformBlock (f : Tables → Block → Block) (s : State) : State :=
  if s.keyed then succeed { s with dout := f s.tables s.din } else raise .noInstance s

/-- ENCRYPT (R118). -/
def execEncrypt (s : State) : Host.Outcome State Fault Refusal :=
  .next (transformBlock encBlock s)

/-- DECRYPT (R127). -/
def execDecrypt (s : State) : Host.Outcome State Fault Refusal :=
  .next (transformBlock decBlock s)

end Sys2Proof.Machine
end

