-- ==== Sys2Proof/Machine/Control.lean ====
section
/-! DEFINITION. NOP, DROP and the illegal opcodes (spec/45_control_commands.md R140, R141, R142). -/

namespace Sys2Proof.Machine

/-- NOP (R140): ERR is 0, nothing else changes. -/
def execNop (s : State) : Host.Outcome State Fault Refusal :=
  .next (succeed s)

/-- DROP (R141): KEYED and ERR are 0, P and S are unspecified; KEY, KEYLEN, DIN and DOUT stay. It is the same without an
instance (DEDUCED, log entry 9). -/
def execDrop (s : State) : Host.Outcome State Fault Refusal :=
  .next (succeed (loseTables { s with keyed := false }))

/-- An illegal opcode (R142): IllegalCommand, nothing else changes (DESIGN CHOICE, log entry 6). -/
def illegalOpcode (s : State) : Host.Outcome State Fault Refusal :=
  .next (raise .illegalCommand s)

end Sys2Proof.Machine
end

