-- ==== Sys2Proof/Machine/KeySchedule.lean ====
section
/-! DEFINITION. EXPAND, the key-schedule command (spec/40_key_expansion.md R90, R92, R96). -/

namespace Sys2Proof.Machine

/-- An instance is installed (R90, R96): the tables are those of the key, KEYED is 1, and the key buffer is cleared. -/
def installKey (k : Key) (s : State) : State :=
  { s with
    tables := expand k
    keyed := true
    key := Vector.replicate 56 0
    keylen := 0 }

/-- EXPAND (R90): the length check first, InvalidKeyLength with no other effect; else the whole expansion. -/
def execExpand (s : State) : Host.Outcome State Fault Refusal :=
  match registerKey s with
  | none => .next (raise .invalidKeyLength s)
  | some k => .next (succeed (installKey k s))

end Sys2Proof.Machine
end

