-- ==== Sys2Proof/Machine/Port.lean ====
section
/-! DEFINITION. The host register port: what each host event does, as one atomic event (spec/20_memory.md R52, R56, R58;
spec/45_control_commands.md R143). -/

namespace Sys2Proof.Machine

/-- A write of v to CMD (R143): the command v selects runs from its first step to its last as part of this write; any
other byte raises IllegalCommand. -/
def runCommand (v : Byte) (s : State) : Host.Outcome State Fault Refusal :=
  match decode v with
  | .ok i => exec i s
  | .error (.illegalCommand _) => illegalOpcode s

/-- BusWrite (R52): a write to CMD runs a command, any other write stores a byte or is ignored. -/
def busWrite (a : Addr) (v : Byte) (s : State) : Host.Outcome State Fault Refusal :=
  match regAt a with
  | .cmd => runCommand v s
  | .status => .next (storeReg .status v s)
  | .keylen => .next (storeReg .keylen v s)
  | .din i => .next (storeReg (.din i) v s)
  | .dout i => .next (storeReg (.dout i) v s)
  | .key i => .next (storeReg (.key i) v s)
  | .reserved => .next (storeReg .reserved v s)

/-- The effect of one host event (R52, R180). -/
def perform (e : HostEvent) (s : State) : Host.Outcome State Fault Refusal :=
  match e with
  | .read a => .next (performRead a s)
  | .write a v => busWrite a v s
  | .reset => .next (performReset s)

/-- The address of CMD (R51). -/
def cmdAddr : Addr := 0x00

/-- The host presents next, before everything it has queued, a write of an opcode byte to CMD: what stands in the place of
fetching an instruction (R28, R70; DESIGN CHOICE, log entry 3). -/
def presentCommand (v : Byte) (s : State) : State :=
  { s with pending := .write cmdAddr v :: s.pending }

end Sys2Proof.Machine
end

