-- ==== Sys2Proof/Machine/Step.lean ====
section
/-! DEFINITION. One step of the machine: the next host event, performed completely (spec/20_memory.md R58). With no event
presented the engine does nothing ("the engine never takes a step of its own", R58; R182): the step leaves the state as it
is (DESIGN CHOICE, log entry 3). -/

namespace Sys2Proof.Machine

/-- One step (R58). -/
def step (s : State) : Host.Outcome State Fault Refusal :=
  match s.pending with
  | [] => .next s
  | e :: rest => perform e { s with pending := rest }

/-- The state whose very next step is the host's write to CMD of the command word w (DESIGN CHOICE, log entry 3). -/
def State.withFetchWord (s : State) (nbits w : Nat) : State :=
  presentCommand (BitVec.ofNat 8 (w % 2 ^ nbits)) s

end Sys2Proof.Machine
end

