-- ==== Sys2Proof/Machine/Chip.lean ====
section
/-! DEFINITION. Several engines on one chip (spec/10_state.md R37, spec/60_exceptions.md R175): each engine is a separate
copy of all state with a port of its own, and they share only the constants. N_ENGINES is the parameter n (R7). -/

namespace Sys2Proof.Machine

/-- A chip of n engines (R37; DEDUCED, log entry 10). All engines draw their unspecified tables from the one `freeWord`, so
two of them reset or dropped at equal draw counts hold equal unspecified tables. The spec leaves each engine's P and S any
values, related or not; the equality is the model's choice (DESIGN CHOICE, log entry 15). -/
abbrev Chip (n : Nat) := Vector State n

/-- One host event at the port of engine k (R37). -/
def chipPerform {n : Nat} (k : Fin n) (e : HostEvent) (chip : Chip n) : Host.Outcome (Chip n) Fault Refusal :=
  match perform e chip[k] with
  | .next s => .next (chip.set k.val s)
  | .fault r => .fault r
  | .refused r => .refused r

end Sys2Proof.Machine
end

