-- ==== Sys2Proof/Machine/HostOps.lean ====
section
/-! DEFINITION. The spec's host notation (spec/30_encoding.md R76, R77): the encoding of an access line and the
pseudo-operations with their expansions. The engine knows nothing of them; they say what a host presents. -/

namespace Sys2Proof.Machine

/-- The encoding of an access line (R76): (write, address, data). RESET is not an access and has none. -/
def accessTriple : HostEvent → Option (Bool × Addr × Option Byte)
  | .read a => some (false, a, none)
  | .write a v => some (true, a, some v)
  | .reset => none

/-- The addresses of STATUS and KEYLEN (R51). -/
def statusAddr : Addr := 0x01

/-- The address of KEYLEN (R51). -/
def keylenAddr : Addr := 0x02

/-- The address of DIN[i] (R51). -/
def dinAddr (i : Nat) : Addr := BitVec.ofNat 7 (0x08 + i)

/-- The address of DOUT[i] (R51). -/
def doutAddr (i : Nat) : Addr := BitVec.ofNat 7 (0x10 + i)

/-- The address of KEY[i] (R51). -/
def keyAddr (i : Nat) : Addr := BitVec.ofNat 7 (0x40 + i)

/-- The pseudo-operations of R77. -/
inductive PseudoOp where
  | loadKey (bytes : List Byte)
  | loadBlk (b : Block)
  | readBlk
  | setKey (bytes : List Byte)
  | enc (b : Block)
  | dec (b : Block)
deriving DecidableEq, Repr

/-- A pseudo-operation names at most 56 key bytes (R77: "n from 0 to 56"). -/
def PseudoOp.wellFormed : PseudoOp → Bool
  | .loadKey bytes => keyOperandWellFormed bytes
  | .loadBlk _ => true
  | .readBlk => true
  | .setKey bytes => keyOperandWellFormed bytes
  | .enc _ => true
  | .dec _ => true

/-- `WR KEY[i], b` for consecutive key bytes from position `start` (R77). -/
def writeKeyBytes (start : Nat) : List Byte → List HostEvent
  | [] => []
  | b :: bs => .write (keyAddr start) b :: writeKeyBytes (start + 1) bs

/-- `LOADKEY` (R77): the key bytes from KEY[0] on, then their number to KEYLEN. -/
def loadKeyEvents (bytes : List Byte) : List HostEvent :=
  writeKeyBytes 0 bytes ++ [.write keylenAddr (BitVec.ofNat 8 bytes.length)]

/-- `LOADBLK` (R77): the eight block bytes to DIN[0] to DIN[7]. -/
def loadBlkEvents (b : Block) : List HostEvent :=
  [.write (dinAddr 0) b[0], .write (dinAddr 1) b[1], .write (dinAddr 2) b[2], .write (dinAddr 3) b[3],
   .write (dinAddr 4) b[4], .write (dinAddr 5) b[5], .write (dinAddr 6) b[6], .write (dinAddr 7) b[7]]

/-- `READBLK` (R77): reads of DOUT[0] to DOUT[7]. -/
def readBlkEvents : List HostEvent :=
  [.read (doutAddr 0), .read (doutAddr 1), .read (doutAddr 2), .read (doutAddr 3),
   .read (doutAddr 4), .read (doutAddr 5), .read (doutAddr 6), .read (doutAddr 7)]

/-- `WR CMD, <command>` and then `RD STATUS` (R77). -/
def commandThenStatus (i : Instr) : List HostEvent :=
  [.write cmdAddr (encode i), .read statusAddr]

/-- The expansion of a pseudo-operation into host accesses (R77). -/
def PseudoOp.events : PseudoOp → List HostEvent
  | .loadKey bytes => loadKeyEvents bytes
  | .loadBlk b => loadBlkEvents b
  | .readBlk => readBlkEvents
  | .setKey bytes => loadKeyEvents bytes ++ commandThenStatus .expand
  | .enc b => loadBlkEvents b ++ commandThenStatus .encrypt ++ readBlkEvents
  | .dec b => loadBlkEvents b ++ commandThenStatus .decrypt ++ readBlkEvents

/-- The host queues a pseudo-operation behind everything it has already queued (R58). -/
def queueOp (op : PseudoOp) (s : State) : State :=
  { s with pending := s.pending ++ op.events }

end Sys2Proof.Machine
end

