-- ==== Sys2Proof/Machine/Pins.lean ====
section
/-! DEFINITION. The port's pins, one rising edge of `clk` at a time (spec/20_memory.md R63; spec/70_reset_and_hazards.md
R180, R181). This is the layer below the events of Machine/Port.lean: it says in which cycle an event is performed. The
step function does not use it; the events are what a model runs on ("Only the access events BusRead, BusWrite and reset
matter to a model", R63). -/

namespace Sys2Proof.Machine

/-- The input pins sampled at one rising edge (R63). -/
structure PinIn where
  rst : Bool
  sel : Bool
  write : Bool
  addr : Addr
  wdata : Byte
deriving DecidableEq, Repr

/-- The output pins in that cycle (R63): `h_ready`, and `h_rdata` in the one cycle in which it is valid. -/
structure PinOut where
  ready : Bool
  rdata : Option Byte
deriving DecidableEq, Repr

/-- One engine at its pins: the engine's state, and how many wait states the access now presented has had. -/
structure PinState where
  engine : State
  waited : Nat
deriving DecidableEq, Repr

/-- The access the pins present (R63, R76). -/
def presentedAccess (i : PinIn) : HostEvent :=
  if i.write then .write i.addr i.wdata else .read i.addr

/-- The wait states of a command byte (R63): T_EXPAND for an EXPAND that passes the length check, T_BLOCK for an ENCRYPT or
DECRYPT that finds KEYED = 1, 0 otherwise. -/
def commandWaitStates (v : Byte) (s : State) : Nat :=
  match decode v with
  | .ok .nop => 0
  | .ok .expand => if (registerKey s).isSome then Config.tExpand else 0
  | .ok .encrypt => if s.keyed then Config.tBlock else 0
  | .ok .decrypt => if s.keyed then Config.tBlock else 0
  | .ok .drop => 0
  | .error (.illegalCommand _) => 0

/-- The wait states of an access (R63): only a write to CMD has any. -/
def waitStates (e : HostEvent) (s : State) : Nat :=
  match e with
  | .read _ => 0
  | .write a v => if regAt a = .cmd then commandWaitStates v s else 0
  | .reset => 0

/-- What `h_rdata` shows in the cycle an access completes (R63): the byte of a read. -/
def completedData (e : HostEvent) (s : State) : Option Byte :=
  match e with
  | .read a => some (busRead s a)
  | .write _ _ => none
  | .reset => none

/-- An access in its completing cycle: performed as one atomic event, `h_ready` = 1 (R63). -/
def completeAccess (e : HostEvent) (p : PinState) : Host.Outcome (PinState × PinOut) Fault Refusal :=
  match perform e p.engine with
  | .next s => .next (⟨s, 0⟩, ⟨true, completedData e p.engine⟩)
  | .fault r => .fault r
  | .refused r => .refused r

/-- One rising edge of `clk` (R63, R180, R181). `rst` wins over everything: the state is the reset state and a presented
access is abandoned. With no access presented nothing happens. A presented access is held in wait states until it has had
them all, and is performed in the next cycle. (What a host that lets go of an access early gets: DESIGN CHOICE, log entry 8.
What pins still held after `rst` falls are: a newly presented access, counted from 0 wait states; DESIGN CHOICE, log
entry 16.) -/
def clockEdge (p : PinState) (i : PinIn) : Host.Outcome (PinState × PinOut) Fault Refusal :=
  if i.rst then
    .next (⟨performReset p.engine, 0⟩, ⟨false, none⟩)
  else if i.sel then
    if p.waited < waitStates (presentedAccess i) p.engine then
      .next ({ p with waited := p.waited + 1 }, ⟨false, none⟩)
    else
      completeAccess (presentedAccess i) p
  else
    .next ({ p with waited := 0 }, ⟨false, none⟩)

/-- `n` cycles in which the host holds the same pins (R63: an access holds its pins until it completes); the outputs of
each cycle, first cycle first. -/
def holdPins (i : PinIn) (p : PinState) : Nat → Host.Outcome (PinState × List PinOut) Fault Refusal
  | 0 => .next (p, [])
  | n + 1 =>
    match holdPins i p n with
    | .next (q, outs) =>
      match clockEdge q i with
      | .next (q', out) => .next (q', outs ++ [out])
      | .fault r => .fault r
      | .refused r => .refused r
    | .fault r => .fault r
    | .refused r => .refused r

end Sys2Proof.Machine
end

