-- ==== Sys2Proof/Safety.lean ====
section
/-! DEFINITION. The terms the claims use: which states are legal between events, which states a host cannot tell apart,
what outcome a command has, and the numbered form of the key schedule. Nothing here is part of the machine. -/

namespace Sys2Proof.Machine

/-- EXPAND accepts KEYLEN as it stands (R92). -/
def legalKeyLength (s : State) : Prop :=
  4 ≤ s.keylen.toNat ∧ s.keylen.toNat ≤ 56

/-- ERR holds a code that some command produces (R27, R74: 0, 1, 3 and 4 occur; spec/93_implementation_defined.md U7). -/
def errOccurs (s : State) : Prop :=
  s.err = 0 ∨ s.err = 1 ∨ s.err = 3 ∨ s.err = 4

/-- The states the engine can be in between two events: ERR is a code that occurs, NoInstance is reported only without an
instance (R73), and with KEYED = 1 the tables are the Expand result of some legal key (R25). -/
structure Consistent (s : State) : Prop where
  err_occurs : errOccurs s
  noInstance_unkeyed : s.err = 3 → s.keyed = false
  keyed_expanded : s.keyed = true → ∃ k : Key, s.tables = expand k

/-- Two states no host can tell apart: equal in every register of R20, in the host's queue and in the bytes the host has
received, and equal in P and S while there is an instance; without one the tables may differ in any way (R36). -/
structure HostEquivalent (s t : State) : Prop where
  keyed : s.keyed = t.keyed
  err : s.err = t.err
  keylen : s.keylen = t.keylen
  key : s.key = t.key
  din : s.din = t.din
  dout : s.dout = t.dout
  pending : s.pending = t.pending
  replies : s.replies = t.replies
  tables : s.keyed = true → s.tables = t.tables

/-- The byte v written to CMD is the next event, and `rest` is what follows it. -/
def nextIsCommand (s : State) (v : Byte) (rest : List HostEvent) : Prop :=
  s.pending = .write cmdAddr v :: rest

/-- ERR after the byte v is written to CMD (R160, R74): each error under its condition, else 0. -/
def outcomeCode (v : Byte) (s : State) : BitVec 3 :=
  if v.toNat = 0x01 then (if 4 ≤ s.keylen.toNat ∧ s.keylen.toNat ≤ 56 then 0 else 1)
  else if v.toNat = 0x02 ∨ v.toNat = 0x03 then (if s.keyed then 0 else 3)
  else if v.toNat = 0x00 ∨ v.toNat = 0x04 then 0
  else 4

/-- Encryption number n of the key schedule, n from 1 to 521, and the pair it replaces, by the formulas of R95 (c): the P
words of positions 2n-2 and 2n-1 (the spec's P[2n-1] and P[2n]) for n up to 9, then, with m = n - 10, entries
2 * (m mod 128) and the next of S-box m / 128. -/
def numberedEncryption (e : Expanding) (n : Nat) : Expanding :=
  let x := encWords e.tables e.block
  if n ≤ 9 then
    let P := (e.tables.P.setIfInBounds (2 * n - 2) x.left).setIfInBounds (2 * n - 1) x.right
    ⟨{ e.tables with P := P }, x⟩
  else
    let k := (n - 10) / 128
    let j := 2 * ((n - 10) % 128)
    let S :=
      if h : k < 4 then e.tables.S.set k ((e.tables.S[k].setIfInBounds j x.left).setIfInBounds (j + 1) x.right)
      else e.tables.S
    ⟨{ e.tables with S := S }, x⟩

/-- A run of the machine: n steps, stopping at a fault or a refusal (there is none, R52). -/
def runSteps : Nat → State → Host.Outcome State Fault Refusal
  | 0, s => .next s
  | n + 1, s =>
    match step s with
    | .next t => runSteps n t
    | .fault r => .fault r
    | .refused r => .refused r

end Sys2Proof.Machine
end

