-- ==== Sys2Proof/Certificates/Slice0/Obligations.lean ====
section
/-! DEFINITION. The statements for the provers. Each docstring names the rule of spec/ it formalises; where a clause rests
on a choice of the model's own, the docstring says so. -/

open Sys2Proof Sys2Proof.Machine

/-! ### Commands and their encodings -/

/-- R71: "the byte must equal the opcode exactly", row by row of the opcode map. -/
def Obligations.OpcodeMapDecodesExactly : Prop :=
  ∀ v : Byte,
    (decode v = .ok .nop ↔ v = 0x00#8) ∧
    (decode v = .ok .expand ↔ v = 0x01#8) ∧
    (decode v = .ok .encrypt ↔ v = 0x02#8) ∧
    (decode v = .ok .decrypt ↔ v = 0x03#8) ∧
    (decode v = .ok .drop ↔ v = 0x04#8)

/-- R70, R71: decoding an encoded command gives it back, and a byte that decodes is the encoding of what it decodes to. -/
def Obligations.DecodeAndEncodeAgree : Prop :=
  (∀ i : Instr, i.wellFormed = true → decode (encode i) = .ok i) ∧
  (∀ (v : Byte) (i : Instr), decode v = .ok i → encode i = v)

/-- R72, R142: each byte 0x05 to 0xFF is rejected by the decoder, and writing it to CMD leaves ERR = 4 and changes nothing
else. -/
def Obligations.IllegalOpcodeRaisesIllegalCommand : Prop :=
  ∀ (v : Byte) (s : State), 0x05 ≤ v.toNat →
    decode v = .error (.illegalCommand v) ∧
    perform (.write cmdAddr v) s = .next { s with err := 4 }

/-- R76: the encoding triple of an access line names the access. -/
def Obligations.AccessTripleNamesTheAccess : Prop :=
  ∀ (e f : HostEvent) (x : Bool × Addr × Option Byte),
    accessTriple e = some x → accessTriple f = some x → e = f

/-! ### The step -/

/-- R143, R58: when the next host event is a write of v to CMD, the step is the decoded command at that state with the
event taken off the queue, or IllegalCommand if v is no command. The word the host lays down (`withFetchWord`) is such a
write. (The queue is the model's own, log entry 3.) -/
def Obligations.StepRunsTheDecodedCommand : Prop :=
  ∀ (s : State) (v : Byte) (rest : List HostEvent),
    (nextIsCommand s v rest →
      (∀ i : Instr, decode v = .ok i → step s = exec i { s with pending := rest }) ∧
      (decode v = .error (.illegalCommand v) → step s = .next { s with pending := rest, err := 4 })) ∧
    (∀ i : Instr, decode v = .ok i → step (s.withFetchWord 8 v.toNat) = exec i s)

/-- R58: "the engine never takes a step of its own": with no host event presented a step changes nothing (the model's
form of it, log entry 3). -/
def Obligations.EngineWaitsForTheHost : Prop :=
  ∀ s : State, s.pending = [] → step s = .next s

/-- R52, R161: no access raises an error and none is refused: every step, of every state, has a next state. -/
def Obligations.EveryStepCompletes : Prop :=
  ∀ s : State, ∃ t : State, step s = .next t

/-! ### The register port -/

/-- R52, the reads: the byte each address returns, and that a read changes no state of the engine (its byte goes to the
host, log entry 4). -/
def Obligations.BusReadReturnsTheMappedByte : Prop :=
  ∀ s : State,
    busRead s 0x00#7 = 0x00#8 ∧
    busRead s 0x01#7 = (0#1 ++ s.err ++ 0#3 ++ BitVec.ofBool s.keyed : BitVec 8) ∧
    busRead s 0x02#7 = s.keylen ∧
    (∀ i : Fin 8, busRead s (BitVec.ofNat 7 (0x08 + i.val)) = s.din[i]) ∧
    (∀ i : Fin 8, busRead s (BitVec.ofNat 7 (0x10 + i.val)) = s.dout[i]) ∧
    (∀ i : Fin 56, busRead s (BitVec.ofNat 7 (0x40 + i.val)) = 0x00#8) ∧
    (∀ a : Addr, (0x03 ≤ a.toNat ∧ a.toNat ≤ 0x07) ∨ (0x18 ≤ a.toNat ∧ a.toNat ≤ 0x3F) ∨ 0x78 ≤ a.toNat →
      busRead s a = 0x00#8) ∧
    (∀ a : Addr, perform (.read a) s = .next { s with replies := s.replies ++ [busRead s a] })

/-- R52, the writes: KEYLEN, DIN and KEY take the byte; STATUS, DOUT and reserved addresses ignore it; a write to CMD runs
the byte as a command. -/
def Obligations.BusWriteStoresOrIsIgnored : Prop :=
  ∀ (s : State) (v : Byte),
    perform (.write 0x00#7 v) s = runCommand v s ∧
    perform (.write 0x01#7 v) s = .next s ∧
    perform (.write 0x02#7 v) s = .next { s with keylen := v } ∧
    (∀ i : Fin 8, perform (.write (BitVec.ofNat 7 (0x08 + i.val)) v) s = .next { s with din := s.din.set i.val v }) ∧
    (∀ i : Fin 8, perform (.write (BitVec.ofNat 7 (0x10 + i.val)) v) s = .next s) ∧
    (∀ i : Fin 56, perform (.write (BitVec.ofNat 7 (0x40 + i.val)) v) s = .next { s with key := s.key.set i.val v }) ∧
    (∀ a : Addr, (0x03 ≤ a.toNat ∧ a.toNat ≤ 0x07) ∨ (0x18 ≤ a.toNat ∧ a.toNat ≤ 0x3F) ∨ 0x78 ≤ a.toNat →
      perform (.write a v) s = .next s)

/-- R56: every write but one to CMD is idempotent: the same byte written twice leaves what it leaves once. -/
def Obligations.PlainWritesAreIdempotent : Prop :=
  ∀ (a : Addr) (v : Byte) (s t : State), a ≠ cmdAddr →
    perform (.write a v) s = .next t → perform (.write a v) t = .next t

/-- R73: the STATUS byte is `(ERR << 4) | KEYED`, and in a consistent state it is one of the seven values that can be
read. -/
def Obligations.StatusReadsOneOfSevenValues : Prop :=
  ∀ s : State,
    busRead s 0x01#7 = (s.err.zeroExtend 8 <<< 4) ||| (BitVec.ofBool s.keyed).zeroExtend 8 ∧
    (Consistent s →
      busRead s 0x01#7 ∈ [0x00#8, 0x01#8, 0x10#8, 0x11#8, 0x30#8, 0x40#8, 0x41#8])

/-- R29, R23, R176: no read depends on the key bytes or the tables: two states equal in KEYED, ERR, KEYLEN, DIN and DOUT
answer every read alike. -/
def Obligations.ReadsRevealNoKeyAndNoTable : Prop :=
  ∀ (s t : State) (a : Addr),
    s.keyed = t.keyed → s.err = t.err → s.keylen = t.keylen → s.din = t.din → s.dout = t.dout →
    busRead s a = busRead t a

/-! ### Reset -/

/-- R36: the state after reset, and STATUS reads 0x00. P and S are unspecified: nothing is said of them. -/
def Obligations.ResetClearsEveryRegister : Prop :=
  State.reset.keyed = false ∧ State.reset.err = 0 ∧ State.reset.keylen = 0x00#8 ∧
  (∀ i : Fin 56, State.reset.key[i] = 0x00#8) ∧
  (∀ i : Fin 8, State.reset.din[i] = 0x00#8) ∧
  (∀ i : Fin 8, State.reset.dout[i] = 0x00#8) ∧
  busRead State.reset 0x01#7 = 0x00#8

/-- R180: a reset event, from any state, leaves the reset state in that one event, with unspecified tables `tb`. The
model's own fields: the draw counter moves on, the host's queue and replies stay (log entries 1, 3, 4). -/
def Obligations.ResetEventLeavesTheResetState : Prop :=
  ∀ (s : State) (rest : List HostEvent), s.pending = .reset :: rest →
    ∃ (tb : Tables) (n : Nat),
      step s = .next { State.reset with tables := tb, draws := n, pending := rest, replies := s.replies }

/-! ### NOP, DROP and errors -/

/-- R140: NOP writes ERR = 0 and changes nothing else, keyed or not. -/
def Obligations.NopOnlyClearsErr : Prop :=
  ∀ s : State,
    exec .nop s = .next { s with err := 0 } ∧
    perform (.write cmdAddr 0x00#8) s = .next { s with err := 0 }

/-- R141: DROP ends the instance: KEYED = 0, ERR = 0, unspecified tables `tb`, all else unchanged (the draw counter is the
model's own, log entry 1). -/
def Obligations.DropEndsTheInstance : Prop :=
  ∀ s : State, ∃ (tb : Tables) (n : Nat),
    exec .drop s = .next { s with keyed := false, err := 0, tables := tb, draws := n } ∧
    perform (.write cmdAddr 0x04#8) s = .next { s with keyed := false, err := 0, tables := tb, draws := n }

/-- R141, R164: after DROP, ENCRYPT and DECRYPT raise NoInstance and write no block. -/
def Obligations.AfterDropNoBlockIsTransformed : Prop :=
  ∀ s : State, ∃ t : State,
    exec .drop s = .next t ∧
    exec .encrypt t = .next { t with err := 3 } ∧
    exec .decrypt t = .next { t with err := 3 } ∧
    t.dout = s.dout

/-- R164: without an instance ENCRYPT and DECRYPT leave ERR = 3 and change nothing else: DOUT is not written. -/
def Obligations.BlockCommandsWithoutInstanceRaiseNoInstance : Prop :=
  ∀ s : State, s.keyed = false →
    perform (.write cmdAddr 0x02#8) s = .next { s with err := 3 } ∧
    perform (.write cmdAddr 0x03#8) s = .next { s with err := 3 }

/-- R165: a command that ends with an error code has changed nothing but ERR. -/
def Obligations.FailingCommandChangesOnlyErr : Prop :=
  ∀ (v : Byte) (s t : State), perform (.write cmdAddr v) s = .next t → t.err ≠ 0 → t = { s with err := t.err }

/-- R26, R74, R160: every byte written to CMD leaves in ERR the outcome of that command, whatever ERR held; no command's
behaviour depends on the old ERR. -/
def Obligations.EveryCommandWritesItsOutcome : Prop :=
  ∀ (v : Byte) (s : State),
    (∃ t : State, perform (.write cmdAddr v) s = .next t ∧ t.err = outcomeCode v s) ∧
    (∀ e : BitVec 3, perform (.write cmdAddr v) { s with err := e } = perform (.write cmdAddr v) s)

/-- R38, the rows of the five commands: DIN, and the model's queue and replies, change under no command; P, S and KEYED
only under EXPAND and DROP; KEYLEN and KEY only under EXPAND; DOUT only under ENCRYPT and DECRYPT. -/
def Obligations.CommandWriteMatrix : Prop :=
  ∀ (i : Instr) (s t : State), exec i s = .next t →
    t.din = s.din ∧ t.pending = s.pending ∧ t.replies = s.replies ∧
    (i ≠ .expand → i ≠ .drop → t.tables = s.tables ∧ t.keyed = s.keyed ∧ t.draws = s.draws) ∧
    (i ≠ .expand → t.keylen = s.keylen ∧ t.key = s.key) ∧
    (i ≠ .encrypt → i ≠ .decrypt → t.dout = s.dout)

/-- R38 through the port: what every host read returns after a command, but for the registers the command writes. -/
def Obligations.CommandFrameOnReads : Prop :=
  ∀ (i : Instr) (s t : State) (a : Addr), exec i s = .next t →
    a.toNat ≠ 0x01 →
    (i = .expand → a.toNat ≠ 0x02) →
    (i = .encrypt ∨ i = .decrypt → ¬ (0x10 ≤ a.toNat ∧ a.toNat ≤ 0x17)) →
    busRead t a = busRead s a

/-! ### EXPAND -/

/-- R90: with KEYLEN in 4..56, EXPAND installs Expand(K, L) for K = KEY[0..L-1], sets KEYED, clears ERR, and zeroes KEY and
KEYLEN; with KEYLEN outside, it leaves ERR = 1. In both cases nothing else changes. The encoding is a write of 0x01 to
CMD. -/
def Obligations.ExpandInstallsTheKey : Prop :=
  ∀ s : State,
    perform (.write 0x00#7 0x01#8) s = exec .expand s ∧
    (4 ≤ s.keylen.toNat → s.keylen.toNat ≤ 56 →
      ∃ k : Key,
        k.bytes = s.key.toList.take s.keylen.toNat ∧
        exec .expand s =
          .next { s with
            tables := expand k, keyed := true, err := 0, key := Vector.replicate 56 0x00#8, keylen := 0x00#8 }) ∧
    (s.keylen.toNat < 4 ∨ 56 < s.keylen.toNat → exec .expand s = .next { s with err := 1 })

/-- R92: with KEYLEN outside 4..56, EXPAND leaves ERR = 1 and changes nothing else; inside, it succeeds. -/
def Obligations.ExpandChecksTheKeyLengthFirst : Prop :=
  ∀ s : State,
    (s.keylen.toNat < 4 ∨ 56 < s.keylen.toNat → perform (.write cmdAddr 0x01#8) s = .next { s with err := 1 }) ∧
    (4 ≤ s.keylen.toNat ∧ s.keylen.toNat ≤ 56 →
      ∃ t : State, perform (.write cmdAddr 0x01#8) s = .next t ∧ t.err = 0 ∧ t.keyed = true)

/-- R97: the tables a successful EXPAND leaves are those the same EXPAND leaves on any other engine with the same key, a
freshly reset one among them: no trace of the old tables remains. -/
def Obligations.ExpandForgetsTheOldInstance : Prop :=
  ∀ s t : State, legalKeyLength s → t.keylen = s.keylen → t.key = s.key →
    ∃ s' t' : State, exec .expand s = .next s' ∧ exec .expand t = .next t' ∧ s'.tables = t'.tables ∧ s'.keyed = true ∧
      t'.keyed = true

/-- R98: after a successful EXPAND a second one fails with InvalidKeyLength and leaves the instance untouched; after a
failed one KEYLEN and KEY are as they were. -/
def Obligations.SecondExpandFails : Prop :=
  ∀ s : State,
    (legalKeyLength s → ∃ t : State, exec .expand s = .next t ∧ exec .expand t = .next { t with err := 1 }) ∧
    (¬ legalKeyLength s → ∃ t : State, exec .expand s = .next t ∧ t.keylen = s.keylen ∧ t.key = s.key)

/-- R100 (d): KEY bytes at positions KEYLEN and above are never read. -/
def Obligations.KeyBytesBeyondTheLengthAreIgnored : Prop :=
  ∀ (s : State) (i : Fin 56) (v : Byte), legalKeyLength s → s.keylen.toNat ≤ i.val →
    exec .expand { s with key := s.key.set i.val v } = exec .expand s

/-- R138: byte c of KeyWord(K, L, i + 1) is K[(4 i + c) mod L], for c from 0 (bits 31:24) to 3 (bits 7:0). -/
def Obligations.KeyWordWrapsPerByte : Prop :=
  ∀ (k : Key) (i : Fin 18) (c : Fin 4),
    k.bytes[(4 * i.val + c.val) % k.bytes.length]? = some ((keyWord k i).extractLsb' (24 - 8 * c.val) 8)

/-- R93, R94: steps 1 and 2 of key expansion: every table word is the constant's, then each P word is XORed with its key
word and no S word changes. -/
def Obligations.KeyIsMixedIntoTheConstants : Prop :=
  ∀ k : Key,
    (∀ i : Fin 18, (mixKey k initialTables).P[i] = piP[i] ^^^ keyWord k i) ∧
    (mixKey k initialTables).S = #v[piS0, piS1, piS2, piS3]

/-- R95, R61: step 3 is the 521 numbered encryptions of the running block, from the zero block, each reading the tables
with every earlier replacement in place and replacing the pair R95 (c) names. -/
def Obligations.KeyScheduleIsTheNumberedEncryptions : Prop :=
  ∀ k : Key,
    expandingEnd k =
      (List.range' 1 521).foldl numberedEncryption ⟨mixKey k initialTables, ⟨0x00000000#32, 0x00000000#32⟩⟩

/-- R96: the last working words equal (S[3][254], S[3][255]). -/
def Obligations.LastWorkingWordsAreTheLastEntries : Prop :=
  ∀ k : Key, (expandingEnd k).block = ⟨(expand k).S[3][254], (expand k).S[3][255]⟩

/-- R100 (b): keys with the same cyclic byte stream give identical tables; a key and the key written twice among them. -/
def Obligations.SameCyclicStreamSameTables : Prop :=
  (∀ k k' : Key,
    (∀ n : Nat, n < 72 → k.bytes[n % k.bytes.length]? = k'.bytes[n % k'.bytes.length]?) → expand k = expand k') ∧
  (∀ k k' : Key, k'.bytes = k.bytes ++ k.bytes → expand k' = expand k)

/-! ### The cipher -/

/-- R110: F of the word b0 || b1 || b2 || b3, the bytes indexing S-boxes 0 to 3 in that order. -/
def Obligations.RoundFunctionCombinesFourLookups : Prop :=
  ∀ (S : SBoxes) (b0 b1 b2 b3 : Byte),
    roundF S (pack32 b0 b1 b2 b3) =
      ((S[0][b0.toNat]'b0.isLt + S[1][b1.toNat]'b1.isLt) ^^^ S[2][b2.toNat]'b2.isLt) + S[3][b3.toNat]'b3.isLt

/-- R116: EncWords without exchanges. With x(0) = L, y(0) = R, y(r) = x(r-1) ^ P[r] and x(r) = y(r-1) ^ F(S, y(r)), the
result is (y(16) ^ P[18], x(16) ^ P[17]). -/
def Obligations.EncWordsWithoutSwaps : Prop :=
  ∀ (t : Tables) (L R : Word) (x y : Nat → Word),
    x 0 = L → y 0 = R →
    (∀ r : Fin 16, y (r.val + 1) = x r.val ^^^ t.P[r.val] ∧ x (r.val + 1) = y r.val ^^^ roundF t.S (y (r.val + 1))) →
    encWords t ⟨L, R⟩ = ⟨y 16 ^^^ t.P[17], x 16 ^^^ t.P[16]⟩

/-- R125: DecWords is EncWords with P read backwards, P'[i] = P[19 - i]. -/
def Obligations.DecWordsIsEncWordsWithReversedP : Prop :=
  ∀ (t t' : Tables) (x : Halves), t'.S = t.S → (∀ i : Fin 18, t'.P[i] = t.P[17 - i.val]) →
    decWords t x = encWords t' x

/-- R128: for every pair of tables, whatever they hold, DecWords and EncWords undo each other on all words, and DecBlock and
EncBlock on all blocks of eight bytes. -/
def Obligations.TransformsAreInverse : Prop :=
  ∀ t : Tables,
    (∀ x : Halves, decWords t (encWords t x) = x ∧ encWords t (decWords t x) = x) ∧
    (∀ b : Block, decBlock t (encBlock t b) = b ∧ encBlock t (decBlock t b) = b)

/-- R119: for fixed tables EncBlock is a bijection on the 2^64 blocks, with inverse DecBlock. -/
def Obligations.EncBlockIsABijection : Prop :=
  ∀ t : Tables, Function.Bijective (encBlock t) ∧ Function.Bijective (decBlock t) ∧
    ∀ b c : Block, encBlock t b = c ↔ decBlock t c = b

/-- R118: with an instance ENCRYPT leaves DOUT = EncBlock(P, S, DIN) and ERR = 0 and changes nothing else; without one it
raises NoInstance. -/
def Obligations.EncryptWritesTheCiphertext : Prop :=
  ∀ s : State,
    perform (.write cmdAddr 0x02#8) s = exec .encrypt s ∧
    (s.keyed = true → exec .encrypt s = .next { s with dout := encBlock s.tables s.din, err := 0 }) ∧
    (s.keyed = false → exec .encrypt s = .next { s with err := 3 })

/-- R127: with an instance DECRYPT leaves DOUT = DecBlock(P, S, DIN) and ERR = 0 and changes nothing else; without one it
raises NoInstance. -/
def Obligations.DecryptWritesThePlaintext : Prop :=
  ∀ s : State,
    perform (.write cmdAddr 0x03#8) s = exec .decrypt s ∧
    (s.keyed = true → exec .decrypt s = .next { s with dout := decBlock s.tables s.din, err := 0 }) ∧
    (s.keyed = false → exec .decrypt s = .next { s with err := 3 })

/-- R128, R30: on a keyed engine, ENCRYPT, the host's copy of DOUT to DIN, then DECRYPT give the first block back; and so
with the two commands exchanged. -/
def Obligations.RegisterRoundTripReturnsTheBlock : Prop :=
  ∀ s : State, s.keyed = true →
    (∃ t u : State, exec .encrypt s = .next t ∧ exec .decrypt { t with din := t.dout } = .next u ∧ u.dout = s.din ∧
      u.err = 0 ∧ u.tables = s.tables) ∧
    (∃ t u : State, exec .decrypt s = .next t ∧ exec .encrypt { t with din := t.dout } = .next u ∧ u.dout = s.din ∧
      u.err = 0 ∧ u.tables = s.tables)

/-- R119, R30: a block result depends on P, S and DIN alone, and repeating the command changes nothing more. -/
def Obligations.BlockCommandsKeepNoChainingState : Prop :=
  ∀ (i : Instr) (s t : State), i = .encrypt ∨ i = .decrypt → s.keyed = true → t.keyed = true →
    s.tables = t.tables → s.din = t.din →
    ∃ s' t' : State, exec i s = .next s' ∧ exec i t = .next t' ∧ s'.dout = t'.dout ∧ exec i s' = .next s'

/-! ### Packing -/

/-- R135: Pack32 puts b0 in bits 31:24, b1 in 23:16, b2 in 15:8 and b3 in 7:0. -/
def Obligations.PackIsBigEndian : Prop :=
  ∀ b0 b1 b2 b3 : Byte,
    (pack32 b0 b1 b2 b3).toNat = b0.toNat * 2 ^ 24 + b1.toNat * 2 ^ 16 + b2.toNat * 2 ^ 8 + b3.toNat

/-- R136: Unpack32 gives bits 31:24, 23:16, 15:8 and 7:0 in that order, and Unpack32 and Pack32 undo each other. -/
def Obligations.UnpackUndoesPack : Prop :=
  (∀ w : Word, (unpack32 w).toList.map (·.toNat) =
    [w.toNat / 2 ^ 24 % 256, w.toNat / 2 ^ 16 % 256, w.toNat / 2 ^ 8 % 256, w.toNat % 256]) ∧
  (∀ b0 b1 b2 b3 : Byte, unpack32 (pack32 b0 b1 b2 b3) = #v[b0, b1, b2, b3]) ∧
  (∀ w : Word, pack32 (unpack32 w)[0] (unpack32 w)[1] (unpack32 w)[2] (unpack32 w)[3] = w)

/-- R137, R139: a block is Left then Right, each big-endian, and packing and unpacking blocks undo each other. -/
def Obligations.BlockPackingIsConsistent : Prop :=
  (∀ b : Block, packBlock b = ⟨pack32 b[0] b[1] b[2] b[3], pack32 b[4] b[5] b[6] b[7]⟩) ∧
  (∀ x : Halves, (unpackBlock x).toList = (unpack32 x.left).toList ++ (unpack32 x.right).toList) ∧
  (∀ x : Halves, packBlock (unpackBlock x) = x) ∧
  (∀ b : Block, unpackBlock (packBlock b) = b)

/-! ### Whole-machine rules -/

/-- R24: while KEYED = 1, a step changes P or S only if it is an EXPAND that passes its length check, a DROP, or a
reset. -/
def Obligations.TablesChangeOnlyByExpandDropReset : Prop :=
  ∀ s t : State, s.keyed = true → step s = .next t → t.tables ≠ s.tables →
    ∃ rest : List HostEvent,
      (nextIsCommand s 0x01#8 rest ∧ legalKeyLength s) ∨ nextIsCommand s 0x04#8 rest ∨ s.pending = .reset :: rest

/-- R25: KEYED becomes 1 only by an EXPAND that passes its length check, with the tables of the key in the registers, and
becomes 0 only by DROP or reset. -/
def Obligations.KeyedChangesOnlyByExpandDropReset : Prop :=
  ∀ s t : State, step s = .next t →
    (s.keyed = false → t.keyed = true →
      ∃ (rest : List HostEvent) (k : Key), nextIsCommand s 0x01#8 rest ∧ legalKeyLength s ∧
        k.bytes = s.key.toList.take s.keylen.toNat ∧ t.tables = expand k) ∧
    (s.keyed = true → t.keyed = false →
      ∃ rest : List HostEvent, nextIsCommand s 0x04#8 rest ∨ s.pending = .reset :: rest)

/-- R25, R36, R73: the reset state is consistent. -/
def Obligations.ResetIsConsistent : Prop :=
  Consistent State.reset

/-- R25, R26, R73: every step keeps the engine consistent: ERR is a code that occurs, NoInstance is reported only without
an instance, and KEYED = 1 only with the tables of some legal key. -/
def Obligations.EveryStepKeepsTheEngineConsistent : Prop :=
  ∀ s t : State, Consistent s → step s = .next t → Consistent t

/-- R36: states that differ in nothing but the unspecified tables of an engine without an instance (and the model's draw
counter, log entry 1) stay so under every step. -/
def Obligations.UnspecifiedTablesStayHidden : Prop :=
  ∀ s t : State, HostEquivalent s t →
    ∃ s' t' : State, step s = .next s' ∧ step t = .next t' ∧ HostEquivalent s' t'

/-- R36: the unspecified contents never influence a value the host reads: over any number of steps, whatever the host
presents, the bytes it receives are the same. (The queue of what the host presents and the bytes received are the model's own,
log entries 3 and 4.) -/
def Obligations.HostNeverReadsUnspecifiedTables : Prop :=
  ∀ (n : Nat) (s t : State), HostEquivalent s t →
    ∃ s' t' : State, runSteps n s = .next s' ∧ runSteps n t = .next t' ∧ s'.replies = t'.replies

/-! ### Pins, several engines, pseudo-operations -/

/-- R63: an access whose pins the host holds is performed, as one atomic event, in the first cycle after its wait states,
the one cycle with `h_ready` = 1; before that nothing changes. -/
def Obligations.HeldAccessCompletesAfterItsWaitStates : Prop :=
  ∀ (i : PinIn) (s t : State), i.rst = false → i.sel = true → perform (presentedAccess i) s = .next t →
    ∀ w : Nat, w = waitStates (presentedAccess i) s →
      (∀ n : Nat, n ≤ w → holdPins i ⟨s, 0⟩ n = .next (⟨s, n⟩, List.replicate n ⟨false, none⟩)) ∧
      holdPins i ⟨s, 0⟩ (w + 1) =
        .next (⟨t, 0⟩, List.replicate w ⟨false, none⟩ ++ [⟨true, completedData (presentedAccess i) s⟩])

/-- R63: T_EXPAND for an EXPAND that passes the length check, T_BLOCK for an ENCRYPT or DECRYPT that finds KEYED = 1, 0 for
every other access. -/
def Obligations.OnlyLongCommandsWait : Prop :=
  ∀ (s : State) (a : Addr) (v : Byte),
    waitStates (.read a) s = 0 ∧
    (a ≠ cmdAddr → waitStates (.write a v) s = 0) ∧
    (legalKeyLength s → waitStates (.write cmdAddr 0x01#8) s = Config.tExpand) ∧
    (s.keyed = true → waitStates (.write cmdAddr 0x02#8) s = Config.tBlock) ∧
    (s.keyed = true → waitStates (.write cmdAddr 0x03#8) s = Config.tBlock) ∧
    (¬ legalKeyLength s → waitStates (.write cmdAddr 0x01#8) s = 0) ∧
    (s.keyed = false → waitStates (.write cmdAddr 0x02#8) s = 0 ∧ waitStates (.write cmdAddr 0x03#8) s = 0) ∧
    (v ≠ 0x01#8 → v ≠ 0x02#8 → v ≠ 0x03#8 → waitStates (.write cmdAddr v) s = 0)

/-- R180, R181: with `rst` = 1 the state is the reset state (tables unspecified) and `h_ready` = 0, however long an access
has been held: the command is abandoned with no effect. -/
def Obligations.ResetPinAbandonsTheCommand : Prop :=
  ∀ (p : PinState) (i : PinIn), i.rst = true →
    ∃ (tb : Tables) (n : Nat),
      clockEdge p i =
        .next (⟨{ State.reset with
                  tables := tb, draws := n, pending := p.engine.pending, replies := p.engine.replies }, 0⟩,
               ⟨false, none⟩)

/-- R37: an access to one engine of a chip is that access at that engine, and changes no state of another. -/
def Obligations.EnginesAreIndependent : Prop :=
  ∀ (n : Nat) (chip : Chip n) (k : Fin n) (e : HostEvent),
    ∃ chip' : Chip n, chipPerform k e chip = .next chip' ∧ perform e chip[k] = .next chip'[k] ∧
      ∀ j : Fin n, j ≠ k → chip'[j] = chip[j]

/-- R77, R54: `ENC b` on a keyed engine leaves the host with STATUS = 0x01 and the eight bytes of EncBlock(P, S, b); on an
engine without an instance, with STATUS = 0x30 and DOUT as it was. (The queue and the replies are the model's own,
log entries 3 and 4.) -/
def Obligations.EncPseudoOperationReturnsTheCiphertext : Prop :=
  ∀ (s : State) (b : Block), s.pending = [] →
    (s.keyed = true →
      runSteps 18 (queueOp (.enc b) s) =
        .next { s with
          din := b, dout := encBlock s.tables b, err := 0,
          replies := s.replies ++ [0x01#8] ++ (encBlock s.tables b).toList }) ∧
    (s.keyed = false →
      runSteps 18 (queueOp (.enc b) s) =
        .next { s with din := b, err := 3, replies := s.replies ++ [0x30#8] ++ s.dout.toList })

/-- R77, R54: `DEC c` likewise, with DecBlock. (The queue and the replies are the model's own, log entries 3 and 4.) -/
def Obligations.DecPseudoOperationReturnsThePlaintext : Prop :=
  ∀ (s : State) (c : Block), s.pending = [] →
    (s.keyed = true →
      runSteps 18 (queueOp (.dec c) s) =
        .next { s with
          din := c, dout := decBlock s.tables c, err := 0,
          replies := s.replies ++ [0x01#8] ++ (decBlock s.tables c).toList }) ∧
    (s.keyed = false →
      runSteps 18 (queueOp (.dec c) s) =
        .next { s with din := c, err := 3, replies := s.replies ++ [0x30#8] ++ s.dout.toList })

/-- R77, R184: `SETKEY` with any well-formed key operand, on any engine: with 4 to 56 bytes the host reads STATUS = 0x01
and the engine holds Expand of exactly those bytes; with fewer it reads InvalidKeyLength, 0x10 or 0x11, and an instance
there
was is kept. (The queue and the replies are the model's own, log entries 3 and 4.) -/
def Obligations.SetKeyPseudoOperationInstallsTheKey : Prop :=
  ∀ (s : State) (bytes : List Byte), s.pending = [] → (PseudoOp.setKey bytes).wellFormed = true →
    ∃ t : State, runSteps (bytes.length + 3) (queueOp (.setKey bytes) s) = .next t ∧
      (∀ k : Key, k.bytes = bytes →
        t.keyed = true ∧ t.tables = expand k ∧ t.replies = s.replies ++ [0x01#8]) ∧
      (bytes.length < 4 →
        t.keyed = s.keyed ∧ t.tables = s.tables ∧
        t.replies = s.replies ++ [if s.keyed then 0x11#8 else 0x10#8])

/-! ### The constants -/

/-- R156, every row of its table of checks: number of words, bitwise exclusive-or, sum modulo 2^32, first word, last
word; the last row is all 1042 words in the order of R150. -/
def Obligations.PiTableChecks : Prop :=
  (piPWords.length = 18 ∧ piPWords.foldl (· ^^^ ·) 0 = 0xB73AD7EA#32 ∧ piPWords.foldl (· + ·) 0 = 0x8E4D14CC#32 ∧
    piP[0] = 0x243F6A88#32 ∧ piP[17] = 0x8979FB1B#32) ∧
  (piS0Words.length = 256 ∧ piS0Words.foldl (· ^^^ ·) 0 = 0x4EB4DB7F#32 ∧ piS0Words.foldl (· + ·) 0 = 0x4B745115#32 ∧
    piS0[0] = 0xD1310BA6#32 ∧ piS0[255] = 0x6E85076A#32) ∧
  (piS1Words.length = 256 ∧ piS1Words.foldl (· ^^^ ·) 0 = 0xC727E122#32 ∧ piS1Words.foldl (· + ·) 0 = 0x72FF37B2#32 ∧
    piS1[0] = 0x4B7A70E9#32 ∧ piS1[255] = 0xDB83ADF7#32) ∧
  (piS2Words.length = 256 ∧ piS2Words.foldl (· ^^^ ·) 0 = 0x462A5D01#32 ∧ piS2Words.foldl (· + ·) 0 = 0x2AC02B91#32 ∧
    piS2[0] = 0xE93D5A68#32 ∧ piS2[255] = 0x406000E0#32) ∧
  (piS3Words.length = 256 ∧ piS3Words.foldl (· ^^^ ·) 0 = 0x1779E2BC#32 ∧ piS3Words.foldl (· + ·) 0 = 0xF43E3A88#32 ∧
    piS3[0] = 0x3A39CE37#32 ∧ piS3[255] = 0x3AC372E6#32) ∧
  ((piPWords ++ piS0Words ++ piS1Words ++ piS2Words ++ piS3Words).length = 1042 ∧
    (piPWords ++ piS0Words ++ piS1Words ++ piS2Words ++ piS3Words).foldl (· ^^^ ·) 0 = 0x6FFA520A#32 ∧
    (piPWords ++ piS0Words ++ piS1Words ++ piS2Words ++ piS3Words).foldl (· + ·) 0 = 0x6BBF03AC#32)
end

