-- ==== Sys2Proof/Laws/Cipher.lean ====
section
/-! SUPPORT. The small lemmas of the cipher's definitions: packing by bit position, the halves, one Feistel round, and what
one encryption of the key schedule leaves. -/

namespace Sys2Proof.Machine

/-! ### Packing -/

/-- Every bit of a packed word (R135). -/
theorem pack32_getLsbD (b0 b1 b2 b3 : Byte) (i : Nat) :
    (pack32 b0 b1 b2 b3).getLsbD i =
      if i < 8 then b3.getLsbD i else if i < 16 then b2.getLsbD (i - 8)
      else if i < 24 then b1.getLsbD (i - 16) else b0.getLsbD (i - 24) := by
  have h : (pack32 b0 b1 b2 b3).getLsbD i = (b0 ++ b1 ++ b2 ++ b3).getLsbD i := rfl
  rw [h]
  simp only [BitVec.getLsbD_append]
  by_cases h1 : i < 8
  · simp [h1]
  · by_cases h2 : i < 16
    · have a : i - 8 < 8 := by omega
      simp [h1, h2, a]
    · have a : ¬ i - 8 < 8 := by omega
      by_cases h3 : i < 24
      · simp [h1, h2, h3, a, Nat.sub_sub]
        intro hc; omega
      · simp [h1, h2, h3, a, Nat.sub_sub]
        intro hc; omega

@[simp] theorem pack32_byte0 (b0 b1 b2 b3 : Byte) : (pack32 b0 b1 b2 b3).extractLsb' 24 8 = b0 := by
  apply BitVec.eq_of_getLsbD_eq
  intro i hi
  have h1 : ¬ 24 + i < 8 := by omega
  have h2 : ¬ 24 + i < 16 := by omega
  simp [pack32_getLsbD, hi, h1, h2]

@[simp] theorem pack32_byte1 (b0 b1 b2 b3 : Byte) : (pack32 b0 b1 b2 b3).extractLsb' 16 8 = b1 := by
  apply BitVec.eq_of_getLsbD_eq
  intro i hi
  have h1 : ¬ 16 + i < 8 := by omega
  have h3 : 16 + i < 24 := by omega
  simp [pack32_getLsbD, hi, h1, h3]

@[simp] theorem pack32_byte2 (b0 b1 b2 b3 : Byte) : (pack32 b0 b1 b2 b3).extractLsb' 8 8 = b2 := by
  apply BitVec.eq_of_getLsbD_eq
  intro i hi
  have h2 : 8 + i < 16 := by omega
  simp [pack32_getLsbD, hi, h2]

@[simp] theorem pack32_byte3 (b0 b1 b2 b3 : Byte) : (pack32 b0 b1 b2 b3).extractLsb' 0 8 = b3 := by
  apply BitVec.eq_of_getLsbD_eq
  intro i hi
  simp [pack32_getLsbD, hi]

@[simp] theorem packBlock_left (b : Block) : (packBlock b).left = pack32 b[0] b[1] b[2] b[3] := rfl
@[simp] theorem packBlock_right (b : Block) : (packBlock b).right = pack32 b[4] b[5] b[6] b[7] := rfl

/-! ### Halves and rounds -/

@[simp] theorem swap_left (x : Halves) : x.swap.left = x.right := rfl
@[simp] theorem swap_right (x : Halves) : x.swap.right = x.left := rfl
@[simp] theorem swap_swap (x : Halves) : x.swap.swap = x := rfl

@[simp] theorem feistelRound_left (t : Tables) (x : Halves) (i : Fin 18) :
    (feistelRound t x i).left = x.right ^^^ roundF t.S (x.left ^^^ t.P[i]) := rfl

@[simp] theorem feistelRound_right (t : Tables) (x : Halves) (i : Fin 18) :
    (feistelRound t x i).right = x.left ^^^ t.P[i] := rfl

/-- Undoing a round (R125, R128): XOR the P word of the next round into the half that holds it, exchange, and a round
with that P word takes off the F of the round before. It leaves the halves exchanged, with this round's P word still in. -/
theorem feistelRound_undo (t : Tables) (x : Halves) (i j : Fin 18) :
    feistelRound t ⟨(feistelRound t x i).right ^^^ t.P[j], (feistelRound t x i).left⟩ j =
      ⟨x.right, x.left ^^^ t.P[i]⟩ := by
  cases x
  simp [feistelRound, Halves.swap, BitVec.xor_assoc]

/-! ### The key schedule -/

@[simp] theorem expandPPair_block (e : Expanding) (n : Fin 9) :
    (expandPPair e n).block = encWords e.tables e.block := rfl

@[simp] theorem expandPPair_S (e : Expanding) (n : Fin 9) : (expandPPair e n).tables.S = e.tables.S := rfl

@[simp] theorem expandSPair_block (k : Fin 4) (e : Expanding) (m : Fin 128) :
    (expandSPair k e m).block = encWords e.tables e.block := rfl

@[simp] theorem expandSPair_P (k : Fin 4) (e : Expanding) (m : Fin 128) :
    (expandSPair k e m).tables.P = e.tables.P := rfl

@[simp] theorem mixKey_S (k : Key) (t : Tables) : (mixKey k t).S = t.S := rfl

/-- Two keys with the same key words have the same tables: the key enters the schedule in step 2 alone (R94). -/
theorem expand_congr {k k' : Key} (h : ∀ i : Fin 18, keyWord k i = keyWord k' i) : expand k = expand k' := by
  have hm : mixKey k initialTables = mixKey k' initialTables := by
    unfold mixKey; simp only [h]
  unfold expand expandingEnd; rw [hm]

end Sys2Proof.Machine
end

