-- ==== Sys2Proof/Laws/State.lean ====
section
/-! SUPPORT. One lemma per field per update of State, so that no later proof unfolds a record update: what each named
operation leaves in each field. -/

namespace Sys2Proof.Machine

@[simp] theorem raise_tables (e : EngineError) (s : State) :
    (raise e s).tables = s.tables := rfl

@[simp] theorem raise_keyed (e : EngineError) (s : State) :
    (raise e s).keyed = s.keyed := rfl

@[simp] theorem raise_err (e : EngineError) (s : State) :
    (raise e s).err = errorCode e := rfl

@[simp] theorem raise_keylen (e : EngineError) (s : State) :
    (raise e s).keylen = s.keylen := rfl

@[simp] theorem raise_key (e : EngineError) (s : State) :
    (raise e s).key = s.key := rfl

@[simp] theorem raise_din (e : EngineError) (s : State) :
    (raise e s).din = s.din := rfl

@[simp] theorem raise_dout (e : EngineError) (s : State) :
    (raise e s).dout = s.dout := rfl

@[simp] theorem raise_draws (e : EngineError) (s : State) :
    (raise e s).draws = s.draws := rfl

@[simp] theorem raise_pending (e : EngineError) (s : State) :
    (raise e s).pending = s.pending := rfl

@[simp] theorem raise_replies (e : EngineError) (s : State) :
    (raise e s).replies = s.replies := rfl

@[simp] theorem succeed_tables (s : State) :
    (succeed s).tables = s.tables := rfl

@[simp] theorem succeed_keyed (s : State) :
    (succeed s).keyed = s.keyed := rfl

@[simp] theorem succeed_err (s : State) :
    (succeed s).err = okCode := rfl

@[simp] theorem succeed_keylen (s : State) :
    (succeed s).keylen = s.keylen := rfl

@[simp] theorem succeed_key (s : State) :
    (succeed s).key = s.key := rfl

@[simp] theorem succeed_din (s : State) :
    (succeed s).din = s.din := rfl

@[simp] theorem succeed_dout (s : State) :
    (succeed s).dout = s.dout := rfl

@[simp] theorem succeed_draws (s : State) :
    (succeed s).draws = s.draws := rfl

@[simp] theorem succeed_pending (s : State) :
    (succeed s).pending = s.pending := rfl

@[simp] theorem succeed_replies (s : State) :
    (succeed s).replies = s.replies := rfl

@[simp] theorem loseTables_tables (s : State) :
    (loseTables s).tables = Tables.unspecified s.draws := rfl

@[simp] theorem loseTables_keyed (s : State) :
    (loseTables s).keyed = s.keyed := rfl

@[simp] theorem loseTables_err (s : State) :
    (loseTables s).err = s.err := rfl

@[simp] theorem loseTables_keylen (s : State) :
    (loseTables s).keylen = s.keylen := rfl

@[simp] theorem loseTables_key (s : State) :
    (loseTables s).key = s.key := rfl

@[simp] theorem loseTables_din (s : State) :
    (loseTables s).din = s.din := rfl

@[simp] theorem loseTables_dout (s : State) :
    (loseTables s).dout = s.dout := rfl

@[simp] theorem loseTables_draws (s : State) :
    (loseTables s).draws = s.draws + 1 := rfl

@[simp] theorem loseTables_pending (s : State) :
    (loseTables s).pending = s.pending := rfl

@[simp] theorem loseTables_replies (s : State) :
    (loseTables s).replies = s.replies := rfl

@[simp] theorem installKey_tables (k : Key) (s : State) :
    (installKey k s).tables = expand k := rfl

@[simp] theorem installKey_keyed (k : Key) (s : State) :
    (installKey k s).keyed = true := rfl

@[simp] theorem installKey_err (k : Key) (s : State) :
    (installKey k s).err = s.err := rfl

@[simp] theorem installKey_keylen (k : Key) (s : State) :
    (installKey k s).keylen = 0 := rfl

@[simp] theorem installKey_key (k : Key) (s : State) :
    (installKey k s).key = Vector.replicate 56 0 := rfl

@[simp] theorem installKey_din (k : Key) (s : State) :
    (installKey k s).din = s.din := rfl

@[simp] theorem installKey_dout (k : Key) (s : State) :
    (installKey k s).dout = s.dout := rfl

@[simp] theorem installKey_draws (k : Key) (s : State) :
    (installKey k s).draws = s.draws := rfl

@[simp] theorem installKey_pending (k : Key) (s : State) :
    (installKey k s).pending = s.pending := rfl

@[simp] theorem installKey_replies (k : Key) (s : State) :
    (installKey k s).replies = s.replies := rfl

@[simp] theorem performRead_tables (a : Addr) (s : State) :
    (performRead a s).tables = s.tables := rfl

@[simp] theorem performRead_keyed (a : Addr) (s : State) :
    (performRead a s).keyed = s.keyed := rfl

@[simp] theorem performRead_err (a : Addr) (s : State) :
    (performRead a s).err = s.err := rfl

@[simp] theorem performRead_keylen (a : Addr) (s : State) :
    (performRead a s).keylen = s.keylen := rfl

@[simp] theorem performRead_key (a : Addr) (s : State) :
    (performRead a s).key = s.key := rfl

@[simp] theorem performRead_din (a : Addr) (s : State) :
    (performRead a s).din = s.din := rfl

@[simp] theorem performRead_dout (a : Addr) (s : State) :
    (performRead a s).dout = s.dout := rfl

@[simp] theorem performRead_draws (a : Addr) (s : State) :
    (performRead a s).draws = s.draws := rfl

@[simp] theorem performRead_pending (a : Addr) (s : State) :
    (performRead a s).pending = s.pending := rfl

@[simp] theorem performRead_replies (a : Addr) (s : State) :
    (performRead a s).replies = s.replies ++ [busRead s a] := rfl

@[simp] theorem performReset_tables (s : State) :
    (performReset s).tables = Tables.unspecified s.draws := rfl

@[simp] theorem performReset_keyed (s : State) :
    (performReset s).keyed = false := rfl

@[simp] theorem performReset_err (s : State) :
    (performReset s).err = 0 := rfl

@[simp] theorem performReset_keylen (s : State) :
    (performReset s).keylen = 0 := rfl

@[simp] theorem performReset_key (s : State) :
    (performReset s).key = Vector.replicate 56 0 := rfl

@[simp] theorem performReset_din (s : State) :
    (performReset s).din = Vector.replicate 8 0 := rfl

@[simp] theorem performReset_dout (s : State) :
    (performReset s).dout = Vector.replicate 8 0 := rfl

@[simp] theorem performReset_draws (s : State) :
    (performReset s).draws = s.draws + 1 := rfl

@[simp] theorem performReset_pending (s : State) :
    (performReset s).pending = s.pending := rfl

@[simp] theorem performReset_replies (s : State) :
    (performReset s).replies = s.replies := rfl

@[simp] theorem presentCommand_tables (v : Byte) (s : State) :
    (presentCommand v s).tables = s.tables := rfl

@[simp] theorem presentCommand_keyed (v : Byte) (s : State) :
    (presentCommand v s).keyed = s.keyed := rfl

@[simp] theorem presentCommand_err (v : Byte) (s : State) :
    (presentCommand v s).err = s.err := rfl

@[simp] theorem presentCommand_keylen (v : Byte) (s : State) :
    (presentCommand v s).keylen = s.keylen := rfl

@[simp] theorem presentCommand_key (v : Byte) (s : State) :
    (presentCommand v s).key = s.key := rfl

@[simp] theorem presentCommand_din (v : Byte) (s : State) :
    (presentCommand v s).din = s.din := rfl

@[simp] theorem presentCommand_dout (v : Byte) (s : State) :
    (presentCommand v s).dout = s.dout := rfl

@[simp] theorem presentCommand_draws (v : Byte) (s : State) :
    (presentCommand v s).draws = s.draws := rfl

@[simp] theorem presentCommand_pending (v : Byte) (s : State) :
    (presentCommand v s).pending = .write cmdAddr v :: s.pending := rfl

@[simp] theorem presentCommand_replies (v : Byte) (s : State) :
    (presentCommand v s).replies = s.replies := rfl

@[simp] theorem queueOp_tables (op : PseudoOp) (s : State) :
    (queueOp op s).tables = s.tables := rfl

@[simp] theorem queueOp_keyed (op : PseudoOp) (s : State) :
    (queueOp op s).keyed = s.keyed := rfl

@[simp] theorem queueOp_err (op : PseudoOp) (s : State) :
    (queueOp op s).err = s.err := rfl

@[simp] theorem queueOp_keylen (op : PseudoOp) (s : State) :
    (queueOp op s).keylen = s.keylen := rfl

@[simp] theorem queueOp_key (op : PseudoOp) (s : State) :
    (queueOp op s).key = s.key := rfl

@[simp] theorem queueOp_din (op : PseudoOp) (s : State) :
    (queueOp op s).din = s.din := rfl

@[simp] theorem queueOp_dout (op : PseudoOp) (s : State) :
    (queueOp op s).dout = s.dout := rfl

@[simp] theorem queueOp_draws (op : PseudoOp) (s : State) :
    (queueOp op s).draws = s.draws := rfl

@[simp] theorem queueOp_pending (op : PseudoOp) (s : State) :
    (queueOp op s).pending = s.pending ++ op.events := rfl

@[simp] theorem queueOp_replies (op : PseudoOp) (s : State) :
    (queueOp op s).replies = s.replies := rfl

@[simp] theorem store_keylen_tables (v : Byte) (s : State) :
    (storeReg .keylen v s).tables = s.tables := rfl

@[simp] theorem store_keylen_keyed (v : Byte) (s : State) :
    (storeReg .keylen v s).keyed = s.keyed := rfl

@[simp] theorem store_keylen_err (v : Byte) (s : State) :
    (storeReg .keylen v s).err = s.err := rfl

@[simp] theorem store_keylen_keylen (v : Byte) (s : State) :
    (storeReg .keylen v s).keylen = v := rfl

@[simp] theorem store_keylen_key (v : Byte) (s : State) :
    (storeReg .keylen v s).key = s.key := rfl

@[simp] theorem store_keylen_din (v : Byte) (s : State) :
    (storeReg .keylen v s).din = s.din := rfl

@[simp] theorem store_keylen_dout (v : Byte) (s : State) :
    (storeReg .keylen v s).dout = s.dout := rfl

@[simp] theorem store_keylen_draws (v : Byte) (s : State) :
    (storeReg .keylen v s).draws = s.draws := rfl

@[simp] theorem store_keylen_pending (v : Byte) (s : State) :
    (storeReg .keylen v s).pending = s.pending := rfl

@[simp] theorem store_keylen_replies (v : Byte) (s : State) :
    (storeReg .keylen v s).replies = s.replies := rfl

@[simp] theorem store_din_tables (i : Fin 8) (v : Byte) (s : State) :
    (storeReg (.din i) v s).tables = s.tables := rfl

@[simp] theorem store_din_keyed (i : Fin 8) (v : Byte) (s : State) :
    (storeReg (.din i) v s).keyed = s.keyed := rfl

@[simp] theorem store_din_err (i : Fin 8) (v : Byte) (s : State) :
    (storeReg (.din i) v s).err = s.err := rfl

@[simp] theorem store_din_keylen (i : Fin 8) (v : Byte) (s : State) :
    (storeReg (.din i) v s).keylen = s.keylen := rfl

@[simp] theorem store_din_key (i : Fin 8) (v : Byte) (s : State) :
    (storeReg (.din i) v s).key = s.key := rfl

@[simp] theorem store_din_din (i : Fin 8) (v : Byte) (s : State) :
    (storeReg (.din i) v s).din = s.din.set i.val v := rfl

@[simp] theorem store_din_dout (i : Fin 8) (v : Byte) (s : State) :
    (storeReg (.din i) v s).dout = s.dout := rfl

@[simp] theorem store_din_draws (i : Fin 8) (v : Byte) (s : State) :
    (storeReg (.din i) v s).draws = s.draws := rfl

@[simp] theorem store_din_pending (i : Fin 8) (v : Byte) (s : State) :
    (storeReg (.din i) v s).pending = s.pending := rfl

@[simp] theorem store_din_replies (i : Fin 8) (v : Byte) (s : State) :
    (storeReg (.din i) v s).replies = s.replies := rfl

@[simp] theorem store_key_tables (i : Fin 56) (v : Byte) (s : State) :
    (storeReg (.key i) v s).tables = s.tables := rfl

@[simp] theorem store_key_keyed (i : Fin 56) (v : Byte) (s : State) :
    (storeReg (.key i) v s).keyed = s.keyed := rfl

@[simp] theorem store_key_err (i : Fin 56) (v : Byte) (s : State) :
    (storeReg (.key i) v s).err = s.err := rfl

@[simp] theorem store_key_keylen (i : Fin 56) (v : Byte) (s : State) :
    (storeReg (.key i) v s).keylen = s.keylen := rfl

@[simp] theorem store_key_key (i : Fin 56) (v : Byte) (s : State) :
    (storeReg (.key i) v s).key = s.key.set i.val v := rfl

@[simp] theorem store_key_din (i : Fin 56) (v : Byte) (s : State) :
    (storeReg (.key i) v s).din = s.din := rfl

@[simp] theorem store_key_dout (i : Fin 56) (v : Byte) (s : State) :
    (storeReg (.key i) v s).dout = s.dout := rfl

@[simp] theorem store_key_draws (i : Fin 56) (v : Byte) (s : State) :
    (storeReg (.key i) v s).draws = s.draws := rfl

@[simp] theorem store_key_pending (i : Fin 56) (v : Byte) (s : State) :
    (storeReg (.key i) v s).pending = s.pending := rfl

@[simp] theorem store_key_replies (i : Fin 56) (v : Byte) (s : State) :
    (storeReg (.key i) v s).replies = s.replies := rfl

@[simp] theorem store_cmd (v : Byte) (s : State) : storeReg .cmd v s = s := rfl

@[simp] theorem store_status (v : Byte) (s : State) : storeReg .status v s = s := rfl

@[simp] theorem store_dout (i : Fin 8) (v : Byte) (s : State) : storeReg (.dout i) v s = s := rfl

@[simp] theorem store_reserved (v : Byte) (s : State) : storeReg .reserved v s = s := rfl

end Sys2Proof.Machine
end

