-- ==== Sys2Proof/Laws/Ops.lean ====
section
/-! SUPPORT. What each shared operation can do, said once: the address map, the key in the registers, the outcomes of a
command, a host event and a step. Later proofs cite these and unfold neither `exec` nor `perform`. -/

namespace Sys2Proof.Machine

/-! ### Codes and addresses -/

@[simp] theorem errorCode_invalidKeyLength : errorCode .invalidKeyLength = 1 := rfl
@[simp] theorem errorCode_invalidBlockLength : errorCode .invalidBlockLength = 2 := rfl
@[simp] theorem errorCode_noInstance : errorCode .noInstance = 3 := rfl
@[simp] theorem errorCode_illegalCommand : errorCode .illegalCommand = 4 := rfl
@[simp] theorem okCode_eq_zero : okCode = 0 := rfl

/-- CMD stands at address 0x00 and nowhere else (R51). -/
theorem regAt_eq_cmd_iff (a : Addr) : regAt a = .cmd ↔ a = cmdAddr := by
  revert a; decide

@[simp] theorem regAt_cmdAddr : regAt cmdAddr = .cmd := by decide

/-- DIN[i] stands at 0x08 + i (R51). -/
@[simp] theorem regAt_din (i : Fin 8) : regAt (BitVec.ofNat 7 (0x08 + i.val)) = .din i := by
  revert i; decide

/-- DOUT[i] stands at 0x10 + i (R51). -/
@[simp] theorem regAt_dout (i : Fin 8) : regAt (BitVec.ofNat 7 (0x10 + i.val)) = .dout i := by
  revert i; decide

/-- KEY[i] stands at 0x40 + i (R51). -/
@[simp] theorem regAt_key (i : Fin 56) : regAt (BitVec.ofNat 7 (0x40 + i.val)) = .key i := by
  revert i; decide

/-- The three reserved ranges of R51. -/
theorem regAt_reserved (a : Addr)
    (h : (0x03 ≤ a.toNat ∧ a.toNat ≤ 0x07) ∨ (0x18 ≤ a.toNat ∧ a.toNat ≤ 0x3F) ∨ 0x78 ≤ a.toNat) :
    regAt a = .reserved := by
  revert a; decide

/-! ### The key in the registers -/

theorem registerKey_of_legal (s : State) (h : 4 ≤ s.keylen.toNat ∧ s.keylen.toNat ≤ 56) :
    ∃ k : Key, registerKey s = some k ∧ k.bytes = s.key.toList.take s.keylen.toNat :=
  ⟨_, dif_pos h, rfl⟩

theorem registerKey_of_illegal (s : State) (h : ¬ (4 ≤ s.keylen.toNat ∧ s.keylen.toNat ≤ 56)) :
    registerKey s = none :=
  dif_neg h

/-- A key is determined by its bytes. -/
theorem key_eq_of_bytes {k k' : Key} (h : k.bytes = k'.bytes) : k = k' := by
  cases k; cases k'; cases h; rfl

/-- The key depends on KEYLEN and KEY alone. -/
theorem registerKey_congr {s t : State} (hl : s.keylen = t.keylen) (hk : s.key = t.key) :
    registerKey s = registerKey t := by
  rw [registerKey, registerKey, hl, hk]

/-- A key in the registers says that the length is legal, and what its bytes are. -/
theorem legal_of_registerKey {s : State} {k : Key} (h : registerKey s = some k) :
    (4 ≤ s.keylen.toNat ∧ s.keylen.toNat ≤ 56) ∧ k.bytes = s.key.toList.take s.keylen.toNat := by
  by_cases hl : 4 ≤ s.keylen.toNat ∧ s.keylen.toNat ≤ 56
  · obtain ⟨k', hk', hb⟩ := registerKey_of_legal s hl
    rw [h] at hk'; cases hk'
    exact ⟨hl, hb⟩
  · rw [registerKey_of_illegal s hl] at h; cases h

/-! ### Commands -/

theorem exec_nop (s : State) : exec .nop s = .next (succeed s) := rfl

theorem exec_drop (s : State) : exec .drop s = .next (succeed (loseTables { s with keyed := false })) := rfl

theorem exec_expand_of_key {s : State} {k : Key} (h : registerKey s = some k) :
    exec .expand s = .next (succeed (installKey k s)) := by
  show execExpand s = _
  unfold execExpand; rw [h]

theorem exec_expand_of_noKey {s : State} (h : registerKey s = none) :
    exec .expand s = .next (raise .invalidKeyLength s) := by
  show execExpand s = _
  unfold execExpand; rw [h]

/-- What a block command leaves, in either case (R118, R127). -/
theorem transformBlock_cases (f : Tables → Block → Block) (s : State) :
    (s.keyed = true ∧ transformBlock f s = succeed { s with dout := f s.tables s.din }) ∨
    (s.keyed = false ∧ transformBlock f s = raise .noInstance s) := by
  unfold transformBlock
  cases h : s.keyed <;> simp

/-- Everything a command can do (R38, the rows of the five commands). -/
theorem exec_cases (i : Instr) (s : State) :
    (i = .nop ∧ exec i s = .next (succeed s)) ∨
    (i = .drop ∧ exec i s = .next (succeed (loseTables { s with keyed := false }))) ∨
    (i = .expand ∧ ∃ k : Key, registerKey s = some k ∧ exec i s = .next (succeed (installKey k s))) ∨
    (i = .expand ∧ registerKey s = none ∧ exec i s = .next (raise .invalidKeyLength s)) ∨
    (i = .encrypt ∧ s.keyed = true ∧ exec i s = .next (succeed { s with dout := encBlock s.tables s.din })) ∨
    (i = .decrypt ∧ s.keyed = true ∧ exec i s = .next (succeed { s with dout := decBlock s.tables s.din })) ∨
    ((i = .encrypt ∨ i = .decrypt) ∧ s.keyed = false ∧ exec i s = .next (raise .noInstance s)) := by
  cases i with
  | nop => exact .inl ⟨rfl, rfl⟩
  | drop => exact .inr (.inl ⟨rfl, rfl⟩)
  | expand =>
    cases h : registerKey s with
    | none => exact .inr (.inr (.inr (.inl ⟨rfl, rfl, exec_expand_of_noKey h⟩)))
    | some k => exact .inr (.inr (.inl ⟨rfl, k, rfl, exec_expand_of_key h⟩))
  | encrypt =>
    obtain ⟨hk, h⟩ | ⟨hk, h⟩ := transformBlock_cases encBlock s
    · exact .inr (.inr (.inr (.inr (.inl ⟨rfl, hk, congrArg _ h⟩))))
    · exact .inr (.inr (.inr (.inr (.inr (.inr ⟨.inl rfl, hk, congrArg _ h⟩)))))
  | decrypt =>
    obtain ⟨hk, h⟩ | ⟨hk, h⟩ := transformBlock_cases decBlock s
    · exact .inr (.inr (.inr (.inr (.inr (.inl ⟨rfl, hk, congrArg _ h⟩)))))
    · exact .inr (.inr (.inr (.inr (.inr (.inr ⟨.inr rfl, hk, congrArg _ h⟩)))))

/-- A byte is a command's opcode or it is illegal (R71, R72). -/
theorem decode_cases (v : Byte) :
    (∃ i : Instr, decode v = .ok i ∧ v = encode i) ∨ (5 ≤ v.toNat ∧ decode v = .error (.illegalCommand v)) := by
  have h : ∀ v : Byte,
      (decode v = .ok .nop ∧ v = encode .nop) ∨ (decode v = .ok .expand ∧ v = encode .expand) ∨
      (decode v = .ok .encrypt ∧ v = encode .encrypt) ∨ (decode v = .ok .decrypt ∧ v = encode .decrypt) ∨
      (decode v = .ok .drop ∧ v = encode .drop) ∨ (5 ≤ v.toNat ∧ decode v = .error (.illegalCommand v)) := by
    decide
  obtain h | h | h | h | h | h := h v
  · exact .inl ⟨_, h⟩
  · exact .inl ⟨_, h⟩
  · exact .inl ⟨_, h⟩
  · exact .inl ⟨_, h⟩
  · exact .inl ⟨_, h⟩
  · exact .inr h

theorem runCommand_of_ok {v : Byte} {i : Instr} (h : decode v = .ok i) (s : State) : runCommand v s = exec i s := by
  unfold runCommand; rw [h]

theorem runCommand_of_illegal {v w : Byte} (h : decode v = .error (.illegalCommand w)) (s : State) :
    runCommand v s = .next (raise .illegalCommand s) := by
  unfold runCommand; rw [h]; rfl

theorem decode_of_illegal {v : Byte} (h : 5 ≤ v.toNat) : decode v = .error (.illegalCommand v) := by
  obtain ⟨i, _, rfl⟩ | ⟨_, hd⟩ := decode_cases v
  · cases i <;> exact absurd h (by decide)
  · exact hd

/-- The byte of a command runs that command (R71, R143). -/
@[simp] theorem runCommand_encode (i : Instr) (s : State) : runCommand (encode i) s = exec i s := by
  cases i <;> rfl

/-! ### Host events -/

@[simp] theorem perform_read (a : Addr) (s : State) : perform (.read a) s = .next (performRead a s) := rfl

@[simp] theorem perform_reset (s : State) : perform .reset s = .next (performReset s) := rfl

@[simp] theorem perform_command (v : Byte) (s : State) : perform (.write cmdAddr v) s = runCommand v s := by
  show busWrite cmdAddr v s = _
  unfold busWrite; rw [regAt_cmdAddr]

theorem perform_store {a : Addr} (h : a ≠ cmdAddr) (v : Byte) (s : State) :
    perform (.write a v) s = .next (storeReg (regAt a) v s) := by
  show busWrite a v s = _
  have h' : regAt a ≠ .cmd := fun h' => h ((regAt_eq_cmd_iff a).1 h')
  unfold busWrite
  cases hr : regAt a <;> first | rfl | exact absurd hr h'

/-- Everything a host event can do. -/
theorem perform_cases (e : HostEvent) (s : State) :
    (∃ a : Addr, e = .read a ∧ perform e s = .next (performRead a s)) ∨
    (e = .reset ∧ perform e s = .next (performReset s)) ∨
    (∃ (a : Addr) (v : Byte), e = .write a v ∧ a ≠ cmdAddr ∧ perform e s = .next (storeReg (regAt a) v s)) ∨
    (∃ i : Instr, e = .write cmdAddr (encode i) ∧ perform e s = exec i s) ∨
    (∃ v : Byte, e = .write cmdAddr v ∧ 5 ≤ v.toNat ∧ perform e s = .next (raise .illegalCommand s)) := by
  cases e with
  | read a => exact .inl ⟨a, rfl, rfl⟩
  | reset => exact .inr (.inl ⟨rfl, rfl⟩)
  | write a v =>
    by_cases h : a = cmdAddr
    · subst h
      obtain ⟨i, hd, rfl⟩ | ⟨hv, hd⟩ := decode_cases v
      · exact .inr (.inr (.inr (.inl ⟨i, rfl, by rw [perform_command, runCommand_of_ok hd]⟩)))
      · exact .inr (.inr (.inr (.inr ⟨v, rfl, hv, by rw [perform_command, runCommand_of_illegal hd]⟩)))
    · exact .inr (.inr (.inl ⟨a, v, rfl, h, perform_store h v s⟩))

/-- A store changes KEYLEN, DIN and KEY at most (R52). -/
theorem storeReg_frame (r : RegName) (v : Byte) (s : State) :
    (storeReg r v s).tables = s.tables ∧ (storeReg r v s).keyed = s.keyed ∧ (storeReg r v s).err = s.err ∧
    (storeReg r v s).dout = s.dout ∧ (storeReg r v s).draws = s.draws ∧ (storeReg r v s).pending = s.pending ∧
    (storeReg r v s).replies = s.replies := by
  cases r <;> simp

/-! ### Steps -/

theorem step_of_idle {s : State} (h : s.pending = []) : step s = .next s := by
  unfold step; rw [h]

theorem step_of_event {s : State} {e : HostEvent} {rest : List HostEvent} (h : s.pending = e :: rest) :
    step s = perform e { s with pending := rest } := by
  unfold step; rw [h]

/-- A step does nothing, or performs the next event. -/
theorem step_cases (s : State) :
    (s.pending = [] ∧ step s = .next s) ∨
    (∃ (e : HostEvent) (rest : List HostEvent), s.pending = e :: rest ∧ step s = perform e { s with pending := rest }) := by
  cases h : s.pending with
  | nil => exact .inl ⟨rfl, step_of_idle h⟩
  | cons e rest => exact .inr ⟨e, rest, rfl, step_of_event h⟩

end Sys2Proof.Machine
end

