-- ==== Sys2Proof/Laws/PerInstr.lean ====
section
/-! SUPPORT. Statements made of each command as syntax, one lemma per constructor of Instr (LAWS.json). -/

/-- A command is one byte in format CMD8 with no field: it is well formed, its opcode is one of 0x00 to 0x04, and the opcode
table's numbering of its eight bits reads back as the command (R70, R71). -/
def Sys2Proof.Laws.OneByte.Statement (i : Sys2Proof.Instr) : Prop :=
  i.wellFormed = true ∧ (Sys2Proof.encode i).toNat ≤ 4 ∧
    Sys2Proof.decodeTableWord 8 (Sys2Proof.encode i).toNat = some i

theorem Sys2Proof.Laws.OneByte.nop : Sys2Proof.Laws.OneByte.Statement .nop := by
  unfold Sys2Proof.Laws.OneByte.Statement; decide

theorem Sys2Proof.Laws.OneByte.expand : Sys2Proof.Laws.OneByte.Statement .expand := by
  unfold Sys2Proof.Laws.OneByte.Statement; decide

theorem Sys2Proof.Laws.OneByte.encrypt : Sys2Proof.Laws.OneByte.Statement .encrypt := by
  unfold Sys2Proof.Laws.OneByte.Statement; decide

theorem Sys2Proof.Laws.OneByte.decrypt : Sys2Proof.Laws.OneByte.Statement .decrypt := by
  unfold Sys2Proof.Laws.OneByte.Statement; decide

theorem Sys2Proof.Laws.OneByte.drop : Sys2Proof.Laws.OneByte.Statement .drop := by
  unfold Sys2Proof.Laws.OneByte.Statement; decide
end

