-- ==== Sys2Proof/Laws/Run.lean ====
section
/-! SUPPORT. Runs of many steps: one step at a time, one event at a time, and the run of the host's core. -/

namespace Sys2Proof.Machine

@[simp] theorem runSteps_zero (s : State) : runSteps 0 s = .next s := rfl

/-- A run takes its first step, then the rest. -/
theorem runSteps_of_step {n : Nat} {s t : State} (h : step s = .next t) : runSteps (n + 1) s = runSteps n t := by
  rw [runSteps, h]

theorem runSteps_of_fault {n : Nat} {s : State} {r : Fault} (h : step s = .fault r) : runSteps (n + 1) s = .fault r := by
  rw [runSteps, h]

theorem runSteps_of_refused {n : Nat} {s : State} {r : Refusal} (h : step s = .refused r) :
    runSteps (n + 1) s = .refused r := by
  rw [runSteps, h]

/-- A run whose next event is a read (R52). -/
theorem runSteps_of_read {n : Nat} {s : State} {a : Addr} {rest : List HostEvent} (h : s.pending = .read a :: rest) :
    runSteps (n + 1) s = runSteps n (performRead a { s with pending := rest }) :=
  runSteps_of_step (by rw [step_of_event h, perform_read])

/-- A run whose next event is a write to an address other than CMD (R52). -/
theorem runSteps_of_store {n : Nat} {s : State} {a : Addr} {v : Byte} {rest : List HostEvent} (hc : a ≠ cmdAddr)
    (h : s.pending = .write a v :: rest) :
    runSteps (n + 1) s = runSteps n (storeReg (regAt a) v { s with pending := rest }) :=
  runSteps_of_step (by rw [step_of_event h, perform_store hc])

/-- A run whose next event is a write of a command's opcode to CMD (R143). -/
theorem runSteps_of_command {n : Nat} {s t : State} {i : Instr} {rest : List HostEvent}
    (h : s.pending = .write cmdAddr (encode i) :: rest) (hx : exec i { s with pending := rest } = .next t) :
    runSteps (n + 1) s = runSteps n t :=
  runSteps_of_step (by rw [step_of_event h, perform_command, runCommand_encode, hx])

/-- Two runs after one another are one run. -/
theorem runSteps_add {m n : Nat} {s t : State} (h : runSteps m s = .next t) :
    runSteps (m + n) s = runSteps n t := by
  induction m generalizing s with
  | zero => cases h; rw [Nat.zero_add]
  | succ m ih =>
    rw [Nat.succ_add]
    cases hs : step s with
    | next u =>
      rw [runSteps_of_step hs] at h ⊢
      exact ih h
    | fault r => rw [runSteps, hs] at h; cases h
    | refused r => rw [runSteps, hs] at h; cases h

/-- A function that starts at `next`, follows next states and stops where the machine stops is the host's run. -/
theorem run_unique (M : Host.Core) (r : Nat → M.State → Host.Outcome M.State M.Fault M.Refusal)
    (h0 : ∀ s, r 0 s = .next s) (hn : ∀ n s t, M.step s = .next t → r (n + 1) s = r n t)
    (hf : ∀ n s e, M.step s = .fault e → r (n + 1) s = .fault e)
    (hr : ∀ n s e, M.step s = .refused e → r (n + 1) s = .refused e) (n : Nat) (s : M.State) :
    M.run n s = r n s := by
  induction n generalizing s with
  | zero => exact (h0 s).symm
  | succ n ih =>
    rw [Host.Core.run]
    cases hs : M.step s with
    | next t => exact (ih t).trans (hn n s t hs).symm
    | fault e => exact (hf n s e hs).symm
    | refused e => exact (hr n s e hs).symm

/-- The run of the host's core is this run. -/
theorem core_run_eq (n : Nat) (s : State) : Host.Core.run core n s = runSteps n s :=
  run_unique core runSteps (fun _ => rfl) (fun _ _ _ h => runSteps_of_step h)
    (fun _ _ _ h => runSteps_of_fault h) (fun _ _ _ h => runSteps_of_refused h) n s

end Sys2Proof.Machine
end

