-- ==== Sys2Proof/Tests/Slice0.lean ====
section
/-! SUPPORT. The model's own tests: words written out from the spec's encodings, worked examples and vectors of the spec
(each test names its source), and a witness for the hypotheses of every statement that has some. -/

namespace Sys2Proof.Machine

/-! ### Well-formedness, decoding -/

/-- R77: `LOADKEY` and `SETKEY` name at most 56 bytes; 57 are refused, 56 are not. -/
theorem test_loadKey_57_bytes_refused : (PseudoOp.loadKey (List.replicate 57 0)).wellFormed = false := by decide

theorem test_setKey_57_bytes_refused : (PseudoOp.setKey (List.replicate 57 0)).wellFormed = false := by decide

theorem test_loadKey_56_bytes_accepted : (PseudoOp.loadKey (List.replicate 56 0)).wellFormed = true := by decide

/-- R71, column "binary", bit by bit. -/
theorem test_decode_words_of_the_opcode_map :
    decode 0b00000000#8 = .ok .nop ∧ decode 0b00000001#8 = .ok .expand ∧ decode 0b00000010#8 = .ok .encrypt ∧
    decode 0b00000011#8 = .ok .decrypt ∧ decode 0b00000100#8 = .ok .drop := by decide

/-- R72: the first, a middle and the last illegal opcode. -/
theorem test_decode_rejects_illegal_opcodes :
    decode 0x05#8 = .error (.illegalCommand 0x05#8) ∧ decode 0x80#8 = .error (.illegalCommand 0x80#8) ∧
    decode 0xFF#8 = .error (.illegalCommand 0xFF#8) := by decide

theorem test_decodeTableWord_reads_one_byte :
    decodeTableWord 8 0x02 = some .encrypt ∧ decodeTableWord 8 0x05 = none ∧ decodeTableWord 8 0x102 = none := by decide

/-- R76: `WR 0x02, 0x08` is (1, 0x02, 0x08), `RD 0x01` is (0, 0x01, -). -/
theorem test_access_triples :
    accessTriple (.write 0x02 0x08) = some (true, 0x02, some 0x08) ∧
    accessTriple (.read 0x01) = some (false, 0x01, none) ∧ accessTriple .reset = none := by decide

/-! ### Packing and the cipher's parts -/

/-- R135 and R136, the examples. -/
theorem test_pack32_example : pack32 0x01 0x23 0x45 0x67 = 0x01234567#32 := by decide

theorem test_unpack32_example : unpack32 0x4EF99745#32 = #v[0x4E, 0xF9, 0x97, 0x45] := by decide

/-- R137, the example. -/
theorem test_packBlock_example :
    packBlock #v[0x01, 0x23, 0x45, 0x67, 0x89, 0xAB, 0xCD, 0xEF] = ⟨0x01234567#32, 0x89ABCDEF#32⟩ := by decide

/-- V14: UnpackBlock of Left = 0x6198DD78, Right = 0x4EF99745. -/
theorem test_unpackBlock_example :
    unpackBlock ⟨0x6198DD78#32, 0x4EF99745#32⟩ = #v[0x61, 0x98, 0xDD, 0x78, 0x4E, 0xF9, 0x97, 0x45] := by decide

/-- The key `01 02 03 04 05` of R138. -/
def fiveByteKey : Key := ⟨[0x01, 0x02, 0x03, 0x04, 0x05], by decide⟩

/-- R138: the wrap is per byte: KeyWord 2 = 0x05010203, KeyWord 6 = 0x01020304. -/
theorem test_keyWord_wraps_per_byte :
    keyWord fiveByteKey 1 = 0x05010203#32 ∧ keyWord fiveByteKey 5 = 0x01020304#32 := by decide

/-- R113, row 0x01234567: the most significant byte indexes S-box 0, and a carry is dropped. -/
theorem test_roundF_example : roundF piS 0x01234567#32 = 0xF36E574C#32 := by decide +kernel

/-- R113, row 0x00000000: both additions wrap. -/
theorem test_roundF_wraps : roundF piS 0x00000000#32 = 0x2FCFF51E#32 := by decide +kernel

/-- R101: encryption 1 of the zero block under (PI_P, PI_S). -/
theorem test_first_encryption_of_the_zero_key :
    encWords initialTables ⟨0, 0⟩ = ⟨0x706D9FCC#32, 0x1792D23A#32⟩ := by decide +kernel

/-- R101 with R128: decrypting that output under the same tables gives the zero block. -/
theorem test_decryption_of_the_first_encryption :
    decWords initialTables ⟨0x706D9FCC#32, 0x1792D23A#32⟩ = ⟨0, 0⟩ := by decide +kernel

/-- The zero key of R101: eight bytes, all 0x00. -/
def zeroKey : Key := ⟨List.replicate 8 0, by decide⟩

/-- R101: the finished P-array of the zero key (encryptions 1 to 9 of the key schedule). -/
theorem test_finished_P_array_of_the_zero_key :
    (expandP ⟨mixKey zeroKey initialTables, ⟨0, 0⟩⟩).tables.P =
      #v[0x706D9FCC, 0x1792D23A, 0x2DB9D714, 0x966E1439, 0xAC21A76D, 0x8324E988,
         0xAC0DC9DD, 0x2C38F6B3, 0x70619520, 0xFA23ECBE, 0x17B2F676, 0xEBA13A04,
         0x8B949E61, 0x7A147CAF, 0x56CCC6B6, 0x4461B24D, 0x7361E6A1, 0x196A7C43] := by decide +kernel

/-- V7: after step 2 with the key `01 02 03 04 05`, P[1] = 253D698C and P[18] = 8D7CFA19. -/
theorem test_mixKey_five_bytes :
    (mixKey fiveByteKey initialTables).P[0] = 0x253D698C#32 ∧
    (mixKey fiveByteKey initialTables).P[17] = 0x8D7CFA19#32 := by decide +kernel

/-! ### One step on a small state -/

/-- Tables of zeros: F is 0 and every key word is 0, so a block transform exchanges nothing but the halves' names. -/
def zeroTables : Tables := ⟨Vector.replicate 18 0, Vector.replicate 4 (Vector.replicate 256 0)⟩

/-- A small state with the given instance flag and KEYLEN, and one pending event. -/
def small (keyed : Bool) (keylen : Byte) (pending : List HostEvent) : State :=
  { tables := zeroTables, keyed := keyed, err := 0, keylen := keylen, key := Vector.replicate 56 0x5A,
    din := #v[1, 2, 3, 4, 5, 6, 7, 8], dout := Vector.replicate 8 0xD0, draws := 0, pending := pending, replies := [] }

/-- A question about the next state; false if the step stopped. -/
def after (o : Host.Outcome State Fault Refusal) (p : State → Bool) : Bool :=
  match o with
  | .next t => p t
  | .fault _ => false
  | .refused _ => false

/-- V15: keyed, `WR CMD, NOP` on STATUS = 0x11 leaves STATUS = 0x01 (R140, the worked example). -/
theorem test_nop_clears_err :
    after (exec .nop { small true 8 [] with err := 1 }) (fun t => decide (busRead t 0x01 = 0x01)) = true := by decide

/-- V15: keyed, KEYLEN = 3, `WR CMD, EXPAND`: STATUS = 0x11, KEYLEN kept. -/
theorem test_expand_too_short :
    after (exec .expand (small true 3 [])) (fun t => decide (busRead t 0x01 = 0x11 ∧ busRead t 0x02 = 0x03)) = true := by
  decide

/-- V11: KEYLEN = 56 is accepted: STATUS = 0x01, KEYLEN = 0x00. -/
theorem test_expand_longest_key :
    after (exec .expand (small false 56 [])) (fun t => decide (busRead t 0x01 = 0x01 ∧ busRead t 0x02 = 0x00)) = true := by
  decide

/-- V15: reset state, `WR CMD, ENCRYPT`: STATUS = 0x30. -/
theorem test_encrypt_after_reset :
    after (step (State.reset.withFetchWord 8 0x02)) (fun t => decide (busRead t 0x01 = 0x30)) = true := by decide

/-- R115 on tables of zeros: 16 exchanges and the undoing of the last leave (R, L) (R116: y(16) = x(15), x(16) = y(15)). -/
theorem test_encrypt_zero_tables :
    after (exec .encrypt (small true 0 []))
      (fun t => decide (busRead t 0x10 = 0x05 ∧ busRead t 0x17 = 0x04 ∧ busRead t 0x08 = 0x01)) = true := by
  decide +kernel

/-- V15: reset state, `WR CMD, DECRYPT`: STATUS = 0x30, DOUT still zero. -/
theorem test_decrypt_after_reset :
    after (step (State.reset.withFetchWord 8 0x03))
      (fun t => decide (busRead t 0x01 = 0x30 ∧ busRead t 0x10 = 0x00)) = true := by decide

/-- V15: keyed, `WR CMD, DROP`: STATUS = 0x00, DOUT keeps the last result, KEYLEN kept. -/
theorem test_drop_keeps_dout :
    after (exec .drop (small true 8 []))
      (fun t => decide (busRead t 0x01 = 0x00 ∧ busRead t 0x10 = 0xD0 ∧ busRead t 0x02 = 0x08)) = true := by decide

/-- V15: keyed, `WR CMD, 0x80`: STATUS = 0x41. -/
theorem test_illegal_opcode :
    after (step (small true 8 [.write 0x00 0x80])) (fun t => decide (busRead t 0x01 = 0x41)) = true := by decide

/-- V16: `WR 0x40, 0x5A`, KEY[0] = 0x5A and the read returns 0x00; `WR 0x10, 0x55` is ignored. -/
theorem test_key_is_write_only :
    after (step (small false 0 [.write 0x40 0x77])) (fun t => decide (t.key[0] = 0x77 ∧ busRead t 0x40 = 0x00)) = true := by
  decide

theorem test_dout_ignores_writes :
    after (step (small false 0 [.write 0x10 0x55])) (fun t => decide (busRead t 0x10 = 0xD0)) = true := by decide

/-- V16: reserved addresses, at the ends of their ranges (R51). -/
theorem test_reserved_addresses_read_zero :
    ∀ a ∈ [0x03#7, 0x07#7, 0x18#7, 0x3F#7, 0x78#7, 0x7F#7], busRead (small true 8 []) a = 0x00 := by decide

/-- R51: the ends of DIN, DOUT and KEY. -/
theorem test_map_ends :
    regAt 0x08 = .din 0 ∧ regAt 0x0F = .din 7 ∧ regAt 0x10 = .dout 0 ∧ regAt 0x17 = .dout 7 ∧
    regAt 0x40 = .key 0 ∧ regAt 0x77 = .key 55 := by decide

/-- R63: a read completes in its first cycle with its byte on h_rdata. -/
theorem test_pin_read_completes_at_once :
    (match clockEdge ⟨small true 8 [], 0⟩ ⟨false, true, false, 0x02, 0⟩ with
      | .next (_, out) => decide (out = ⟨true, some 0x08⟩)
      | .fault _ => false
      | .refused _ => false) = true := by decide

/-! ### Witnesses: for every statement with hypotheses, an input that meets them -/

theorem witness_DecodeAndEncodeAgree :
    Instr.wellFormed .encrypt = true ∧ decode 0x02#8 = .ok .encrypt := by decide

theorem witness_IllegalOpcodeRaisesIllegalCommand : 0x05 ≤ (0x05#8).toNat ∧ 0x05 ≤ (0xFF#8).toNat := by decide

theorem witness_AccessTripleNamesTheAccess :
    accessTriple (.read 0x01) = some (false, 0x01, none) ∧
    accessTriple (.write 0x02 0x08) = some (true, 0x02, some 0x08) := by decide

theorem witness_StepRunsTheDecodedCommand :
    (nextIsCommand (small true 8 [.write 0x00 0x02]) 0x02 [] ∧ decode 0x02#8 = .ok .encrypt) ∧
    (nextIsCommand (small true 8 [.write 0x00 0x05, .reset]) 0x05 [.reset] ∧
      decode 0x05#8 = .error (.illegalCommand 0x05#8)) :=
  ⟨⟨rfl, rfl⟩, rfl, rfl⟩

theorem witness_EngineWaitsForTheHost : State.reset.pending = [] := rfl

theorem witness_reserved_ranges :
    ∀ a ∈ [0x03#7, 0x07#7, 0x18#7, 0x3F#7, 0x78#7, 0x7F#7],
      (0x03 ≤ a.toNat ∧ a.toNat ≤ 0x07) ∨ (0x18 ≤ a.toNat ∧ a.toNat ≤ 0x3F) ∨ 0x78 ≤ a.toNat := by decide

theorem witness_PlainWritesAreIdempotent :
    (0x40#7 : Addr) ≠ cmdAddr ∧
    ∃ t, perform (.write 0x40 0x77) (small false 0 []) = .next t ∧ t ≠ small false 0 [] :=
  ⟨by decide, _, rfl, fun h => absurd (congrArg (fun t => t.key[0]) h) (by decide)⟩

/-- A consistent state with an instance: the tables of a legal key, the last command having failed. -/
def keyedState (pending : List HostEvent) : State :=
  { small true 57 pending with tables := expand fiveByteKey, err := 1 }

theorem keyedState_consistent (pending : List HostEvent) : Consistent (keyedState pending) :=
  ⟨.inr (.inl rfl), fun h => absurd h (by decide : ¬ (1 : BitVec 3) = 3), fun _ => ⟨fiveByteKey, rfl⟩⟩

theorem witness_StatusReadsOneOfSevenValues : Consistent (keyedState []) := keyedState_consistent []

theorem witness_ReadsRevealNoKeyAndNoTable :
    ∃ s t : State, s.keyed = t.keyed ∧ s.err = t.err ∧ s.keylen = t.keylen ∧ s.din = t.din ∧ s.dout = t.dout ∧
      s.key ≠ t.key :=
  ⟨small true 8 [], { small true 8 [] with key := Vector.replicate 56 0 }, rfl, rfl, rfl, rfl, rfl, by decide⟩

theorem witness_ResetEventLeavesTheResetState : (small true 8 [.reset, .read 0x01]).pending = .reset :: [.read 0x01] := rfl

theorem witness_BlockCommandsWithoutInstanceRaiseNoInstance : (small false 8 []).keyed = false := rfl

theorem witness_FailingCommandChangesOnlyErr :
    ∃ t, perform (.write cmdAddr 0x01) (small true 57 []) = .next t ∧ t.err ≠ 0 :=
  ⟨_, rfl, by decide⟩

theorem witness_CommandWriteMatrix :
    (∃ t, exec .nop (small true 8 []) = .next t) ∧ (∃ t, exec .expand (small true 57 []) = .next t) ∧
    (∃ t, exec .encrypt (small false 8 []) = .next t) ∧ (∃ t, exec .decrypt (small false 8 []) = .next t) ∧
    (∃ t, exec .drop (small true 8 []) = .next t) :=
  ⟨⟨_, rfl⟩, ⟨_, rfl⟩, ⟨_, rfl⟩, ⟨_, rfl⟩, ⟨_, rfl⟩⟩

/-- For the frame on reads: KEYLEN under ENCRYPT, DOUT under EXPAND (the two exceptions exchanged), at the ends of DOUT. -/
theorem witness_CommandFrameOnReads :
    (∃ t, exec .encrypt (small false 8 []) = .next t) ∧ (∃ t, exec .expand (small true 57 []) = .next t) ∧
    (0x02#7).toNat ≠ 0x01 ∧ ¬ (0x10 ≤ (0x0F#7).toNat ∧ (0x0F#7).toNat ≤ 0x17) ∧
    ¬ (0x10 ≤ (0x18#7).toNat ∧ (0x18#7).toNat ≤ 0x17) :=
  ⟨⟨_, rfl⟩, ⟨_, rfl⟩, by decide, by decide, by decide⟩

theorem witness_ExpandInstallsTheKey :
    (4 ≤ (small false 4 []).keylen.toNat ∧ (small false 4 []).keylen.toNat ≤ 56) ∧
    (4 ≤ (small true 56 []).keylen.toNat ∧ (small true 56 []).keylen.toNat ≤ 56) ∧
    (small true 3 []).keylen.toNat < 4 ∧ 56 < (small false 57 []).keylen.toNat := by decide

theorem witness_ExpandChecksTheKeyLengthFirst :
    (small false 3 []).keylen.toNat < 4 ∧ 56 < (small false 57 []).keylen.toNat ∧ 56 < (small false 255 []).keylen.toNat := by
  decide

theorem witness_ExpandForgetsTheOldInstance :
    ∃ s t : State, legalKeyLength s ∧ t.keylen = s.keylen ∧ t.key = s.key ∧ s.keyed ≠ t.keyed ∧ s.dout ≠ t.dout :=
  ⟨small true 8 [], { small false 8 [] with dout := Vector.replicate 8 0 }, ⟨by decide, by decide⟩, rfl, rfl, by decide,
    by decide⟩

theorem witness_SecondExpandFails : legalKeyLength (small true 4 []) ∧ ¬ legalKeyLength (small true 57 []) :=
  ⟨⟨by decide, by decide⟩, fun h => absurd h.2 (by decide)⟩

theorem witness_KeyBytesBeyondTheLengthAreIgnored :
    legalKeyLength (small true 4 []) ∧ (small true 4 []).keylen.toNat ≤ (4 : Fin 56).val ∧
    (small true 55 []).keylen.toNat ≤ (55 : Fin 56).val :=
  ⟨⟨by decide, by decide⟩, by decide, by decide⟩

/-- The key `01 02 03 04 05` written twice. -/
def fiveByteKeyTwice : Key :=
  ⟨[0x01, 0x02, 0x03, 0x04, 0x05, 0x01, 0x02, 0x03, 0x04, 0x05], by decide⟩

theorem witness_SameCyclicStreamSameTables :
    fiveByteKeyTwice.bytes = fiveByteKey.bytes ++ fiveByteKey.bytes ∧ fiveByteKeyTwice ≠ fiveByteKey := by decide

/-- With tables of zeros x(r) and y(r) alternate between the two halves. -/
theorem witness_EncWordsWithoutSwaps :
    ∃ (x y : Nat → Word), x 0 = 1 ∧ y 0 = 2 ∧
      ∀ r : Fin 16, y (r.val + 1) = x r.val ^^^ zeroTables.P[r.val] ∧
        x (r.val + 1) = y r.val ^^^ roundF zeroTables.S (y (r.val + 1)) :=
  ⟨fun r => if r % 2 = 0 then 1 else 2, fun r => if r % 2 = 0 then 2 else 1, rfl, rfl, by decide +kernel⟩

/-- P words 0, 1, ..., 17 and the same read backwards. -/
theorem witness_DecWordsIsEncWordsWithReversedP :
    ∃ t t' : Tables, t'.S = t.S ∧ (∀ i : Fin 18, t'.P[i] = t.P[17 - i.val]) ∧ t.P ≠ t'.P :=
  ⟨{ zeroTables with P := Vector.ofFn fun i => BitVec.ofNat 32 i.val },
    { zeroTables with P := Vector.ofFn fun i => BitVec.ofNat 32 (17 - i.val) }, rfl, by decide, by decide⟩

theorem witness_RegisterRoundTripReturnsTheBlock : (small true 8 []).keyed = true := rfl

theorem witness_BlockCommandsKeepNoChainingState :
    ∃ s t : State, s.keyed = true ∧ t.keyed = true ∧ s.tables = t.tables ∧ s.din = t.din ∧ s.dout ≠ t.dout :=
  ⟨small true 8 [], { small true 8 [] with dout := Vector.replicate 8 0 }, rfl, rfl, rfl, rfl, by decide⟩

/-- Tables that differ from those of a key in P[1]. -/
def otherTables (k : Key) : Tables :=
  { expand k with P := (expand k).P.set 0 ((expand k).P[0] + 1) }

/-- A tables change: EXPAND with the key in the registers, from other tables. -/
theorem witness_TablesChangeOnlyByExpandDropReset :
    ∃ s t : State, s.keyed = true ∧ step s = .next t ∧ t.tables ≠ s.tables := by
  obtain ⟨k, hk, _⟩ := registerKey_of_legal (small true 8 []) (by decide)
  refine ⟨{ small true 8 [.write cmdAddr 0x01] with tables := otherTables k },
    succeed (installKey k { small true 8 [] with tables := otherTables k }), rfl, ?_, ?_⟩
  · rw [step_of_event rfl, perform_command]
    exact exec_expand_of_key (s := { small true 8 [] with tables := otherTables k }) hk
  · intro h
    have h' := congrArg (fun t => t.P[0]) h
    simp [otherTables] at h'

theorem witness_KeyedChangesOnlyByExpandDropReset :
    (∃ s t : State, step s = .next t ∧ s.keyed = false ∧ t.keyed = true) ∧
    (∃ s t : State, step s = .next t ∧ s.keyed = true ∧ t.keyed = false) := by
  refine ⟨?_, ⟨small true 8 [.write cmdAddr 0x04], _, rfl, rfl, rfl⟩⟩
  obtain ⟨k, hk, _⟩ := registerKey_of_legal (small false 8 []) (by decide)
  refine ⟨small false 8 [.write cmdAddr 0x01], succeed (installKey k (small false 8 [])), ?_, rfl, rfl⟩
  rw [step_of_event rfl, perform_command]
  exact exec_expand_of_key hk

theorem witness_EveryStepKeepsTheEngineConsistent :
    Consistent (keyedState [.write cmdAddr 0x01]) ∧ ∃ t, step (keyedState [.write cmdAddr 0x01]) = .next t :=
  ⟨keyedState_consistent _, _, rfl⟩

theorem witness_UnspecifiedTablesStayHidden :
    ∃ s t : State, HostEquivalent s t ∧ s.tables ≠ t.tables :=
  ⟨small false 8 [], { small false 8 [] with tables := { zeroTables with P := Vector.replicate 18 1 } },
    ⟨rfl, rfl, rfl, rfl, rfl, rfl, rfl, rfl, fun h => absurd h (by decide)⟩,
    fun h => absurd (congrArg (fun t => t.P[0]) h) (by decide)⟩

theorem witness_HeldAccessCompletesAfterItsWaitStates :
    ∃ t, perform (presentedAccess ⟨false, true, true, cmdAddr, 0x02⟩) (small true 8 []) = .next t ∧
      waitStates (presentedAccess ⟨false, true, true, cmdAddr, 0x02⟩) (small true 8 []) = Config.tBlock :=
  ⟨_, rfl, rfl⟩

theorem witness_OnlyLongCommandsWait :
    (0x02#7 : Addr) ≠ cmdAddr ∧ legalKeyLength (small true 4 []) ∧ ¬ legalKeyLength (small true 3 []) ∧
    (small true 8 []).keyed = true ∧ (small false 8 []).keyed = false ∧
    (0x00#8 ≠ 0x01#8 ∧ 0x00#8 ≠ 0x02#8 ∧ 0x00#8 ≠ 0x03#8) :=
  ⟨by decide, ⟨by decide, by decide⟩, fun h => absurd h.1 (by decide), rfl, rfl, by decide⟩

theorem witness_EnginesAreIndependent : ∃ j k : Fin 2, j ≠ k := ⟨0, 1, by decide⟩

theorem witness_ResetPinAbandonsTheCommand : (⟨true, true, true, cmdAddr, 0x01⟩ : PinIn).rst = true := rfl

/-- The key `DE AD BE EF` of R138: the shortest length EXPAND accepts. -/
def fourByteKey : Key := ⟨[0xDE, 0xAD, 0xBE, 0xEF], by decide⟩

theorem witness_PseudoOperations :
    (small true 8 []).pending = [] ∧ (small true 8 []).keyed = true ∧ (small false 8 []).keyed = false ∧
    (PseudoOp.setKey fiveByteKey.bytes).wellFormed = true ∧ (PseudoOp.setKey [0x01, 0x02, 0x03]).wellFormed = true ∧
    ((PseudoOp.setKey fourByteKey.bytes).wellFormed = true ∧ fourByteKey.bytes.length = 4) ∧
    (PseudoOp.setKey (List.replicate 56 0)).wellFormed = true := by decide

end Sys2Proof.Machine
end

/-! SUPPORT. Proofs of the statements about the engine's state: what the host reads, what a command leaves unchanged,
what a step does to the instance and to ERR, and which states a host cannot tell apart. -/

namespace Sys2Proof.Machine

/-! ### What a completed command, event or step was -/

/-- A completed command, by the rows of R38. -/
theorem exec_next_cases {i : Instr} {s t : State} (h : exec i s = .next t) :
    (i = .nop ∧ t = succeed s) ∨
    (i = .drop ∧ t = succeed (loseTables { s with keyed := false })) ∨
    (i = .expand ∧ ∃ k : Key, registerKey s = some k ∧ t = succeed (installKey k s)) ∨
    (i = .expand ∧ registerKey s = none ∧ t = raise .invalidKeyLength s) ∨
    (i = .encrypt ∧ s.keyed = true ∧ t = succeed { s with dout := encBlock s.tables s.din }) ∨
    (i = .decrypt ∧ s.keyed = true ∧ t = succeed { s with dout := decBlock s.tables s.din }) ∨
    ((i = .encrypt ∨ i = .decrypt) ∧ s.keyed = false ∧ t = raise .noInstance s) := by
  simpa only [h, Host.Outcome.next.injEq] using exec_cases i s

/-- A completed host event (R52, R143, R180). -/
theorem perform_next_cases {e : HostEvent} {s t : State} (h : perform e s = .next t) :
    (∃ a : Addr, e = .read a ∧ t = performRead a s) ∨
    (e = .reset ∧ t = performReset s) ∨
    (∃ (a : Addr) (v : Byte), e = .write a v ∧ a ≠ cmdAddr ∧ t = storeReg (regAt a) v s) ∨
    (∃ i : Instr, e = .write cmdAddr (encode i) ∧ exec i s = .next t) ∨
    (∃ v : Byte, e = .write cmdAddr v ∧ 5 ≤ v.toNat ∧ t = raise .illegalCommand s) := by
  simpa only [h, Host.Outcome.next.injEq, eq_comm (a := Host.Outcome.next t) (b := exec _ _)] using perform_cases e s

/-- A completed step: idle, or the event at the head of the queue (R58). -/
theorem step_next_cases {s t : State} (h : step s = .next t) :
    (s.pending = [] ∧ t = s) ∨
    (∃ (e : HostEvent) (rest : List HostEvent), s.pending = e :: rest ∧ perform e { s with pending := rest } = .next t) := by
  simpa only [h, Host.Outcome.next.injEq, eq_comm (a := Host.Outcome.next t) (b := perform _ _)] using step_cases s

/-- Every command completes (R165). -/
theorem exec_completes (i : Instr) (s : State) : ∃ t : State, exec i s = .next t := by
  obtain ⟨-, h⟩ | ⟨-, h⟩ | ⟨-, k, -, h⟩ | ⟨-, -, h⟩ | ⟨-, -, h⟩ | ⟨-, -, h⟩ | ⟨-, -, h⟩ := exec_cases i s <;>
    exact ⟨_, h⟩

/-- Every host event completes (R52, R161). -/
theorem perform_completes (e : HostEvent) (s : State) : ∃ t : State, perform e s = .next t := by
  obtain ⟨a, -, h⟩ | ⟨-, h⟩ | ⟨a, v, -, -, h⟩ | ⟨i, -, h⟩ | ⟨v, -, -, h⟩ := perform_cases e s
  · exact ⟨_, h⟩
  · exact ⟨_, h⟩
  · exact ⟨_, h⟩
  · rw [h]; exact exec_completes i s
  · exact ⟨_, h⟩

/-! ### Consistency -/

/-- What a command does to the instance (R24, R25): nothing, DROP ends it, or EXPAND installs the key of the registers. -/
theorem exec_instance_cases {i : Instr} {s t : State} (h : exec i s = .next t) :
    (t.tables = s.tables ∧ t.keyed = s.keyed) ∨
    (i = .drop ∧ t.keyed = false) ∨
    (i = .expand ∧ ∃ k : Key, registerKey s = some k ∧ t.keyed = true ∧ t.tables = expand k) := by
  obtain ⟨-, rfl⟩ | ⟨hi, rfl⟩ | ⟨hi, k, hk, rfl⟩ | ⟨-, -, rfl⟩ | ⟨-, -, rfl⟩ | ⟨-, -, rfl⟩ | ⟨-, -, rfl⟩ :=
    exec_next_cases h
  · exact .inl ⟨rfl, rfl⟩
  · exact .inr (.inl ⟨hi, rfl⟩)
  · exact .inr (.inr ⟨hi, k, hk, rfl, rfl⟩)
  all_goals exact .inl ⟨rfl, rfl⟩

/-- What a step does to the instance (R24, R25): only DROP, reset and an EXPAND with a key in the registers change it. -/
theorem step_instance_cases {s t : State} (h : step s = .next t) :
    (t.tables = s.tables ∧ t.keyed = s.keyed) ∨
    (∃ rest : List HostEvent, (nextIsCommand s 0x04#8 rest ∨ s.pending = .reset :: rest) ∧ t.keyed = false) ∨
    (∃ (rest : List HostEvent) (k : Key), nextIsCommand s 0x01#8 rest ∧ registerKey s = some k ∧ t.keyed = true ∧
      t.tables = expand k) := by
  obtain ⟨-, rfl⟩ | ⟨e, rest, hp, he⟩ := step_next_cases h
  · exact .inl ⟨rfl, rfl⟩
  obtain ⟨a, -, rfl⟩ | ⟨rfl, rfl⟩ | ⟨a, v, -, -, rfl⟩ | ⟨i, rfl, hx⟩ | ⟨v, -, -, rfl⟩ := perform_next_cases he
  · exact .inl ⟨rfl, rfl⟩
  · exact .inr (.inl ⟨rest, .inr hp, rfl⟩)
  · obtain ⟨htables, hkeyed, -⟩ := storeReg_frame (regAt a) v { s with pending := rest }
    exact .inl ⟨htables, hkeyed⟩
  · obtain hsame | ⟨rfl, hkeyed⟩ | ⟨rfl, k, hk, hkeyed, htables⟩ := exec_instance_cases hx
    · exact .inl hsame
    · exact .inr (.inl ⟨rest, .inl hp, hkeyed⟩)
    · exact .inr (.inr ⟨rest, k, hp, hk, hkeyed, htables⟩)
  · exact .inl ⟨rfl, rfl⟩

/-- What a command leaves in ERR (R74); NoInstance only without an instance. -/
theorem exec_err_cases {i : Instr} {s t : State} (h : exec i s = .next t) :
    t.err = 0 ∨ t.err = 1 ∨ (t.err = 3 ∧ t.keyed = false) := by
  obtain ⟨-, rfl⟩ | ⟨-, rfl⟩ | ⟨-, k, -, rfl⟩ | ⟨-, -, rfl⟩ | ⟨-, -, rfl⟩ | ⟨-, -, rfl⟩ | ⟨-, hkeyed, rfl⟩ :=
    exec_next_cases h
  · exact .inl rfl
  · exact .inl rfl
  · exact .inl rfl
  · exact .inr (.inl rfl)
  · exact .inl rfl
  · exact .inl rfl
  · exact .inr (.inr ⟨rfl, hkeyed⟩)

/-- What a step leaves in ERR (R26, R74): the old code of the same instance, or a new outcome. -/
theorem step_err_cases {s t : State} (h : step s = .next t) :
    (t.err = s.err ∧ t.keyed = s.keyed) ∨ t.err = 0 ∨ t.err = 1 ∨ (t.err = 3 ∧ t.keyed = false) ∨ t.err = 4 := by
  obtain ⟨-, rfl⟩ | ⟨e, rest, -, he⟩ := step_next_cases h
  · exact .inl ⟨rfl, rfl⟩
  obtain ⟨a, -, rfl⟩ | ⟨-, rfl⟩ | ⟨a, v, -, -, rfl⟩ | ⟨i, -, hx⟩ | ⟨v, -, -, rfl⟩ := perform_next_cases he
  · exact .inl ⟨rfl, rfl⟩
  · exact .inr (.inl rfl)
  · obtain ⟨-, hkeyed, herr, -⟩ := storeReg_frame (regAt a) v { s with pending := rest }
    exact .inl ⟨herr, hkeyed⟩
  · obtain h0 | h1 | h3 := exec_err_cases hx
    · exact .inr (.inl h0)
    · exact .inr (.inr (.inl h1))
    · exact .inr (.inr (.inr (.inl h3)))
  · exact .inr (.inr (.inr (.inr rfl)))

/-- Every step leaves in ERR a code that occurs (R26, R74). -/
theorem step_keeps_errOccurs {s t : State} (hs : errOccurs s) (h : step s = .next t) : errOccurs t := by
  obtain ⟨herr, -⟩ | h0 | h1 | ⟨h3, -⟩ | h4 := step_err_cases h
  · rw [errOccurs, herr]; exact hs
  · exact .inl h0
  · exact .inr (.inl h1)
  · exact .inr (.inr (.inl h3))
  · exact .inr (.inr (.inr h4))

/-- Every step reports NoInstance only without an instance (R73). -/
theorem step_keeps_noInstance_unkeyed {s t : State} (hs : s.err = 3 → s.keyed = false) (h : step s = .next t)
    (ht : t.err = 3) : t.keyed = false := by
  obtain ⟨herr, hkeyed⟩ | h0 | h1 | ⟨-, hkeyed⟩ | h4 := step_err_cases h
  · rw [hkeyed]; exact hs (herr ▸ ht)
  · rw [h0] at ht; exact absurd ht (by decide)
  · rw [h1] at ht; exact absurd ht (by decide)
  · exact hkeyed
  · rw [h4] at ht; exact absurd ht (by decide)

/-- Every step leaves an instance only with the tables of a legal key (R25). -/
theorem step_keeps_keyed_expanded {s t : State} (hs : s.keyed = true → ∃ k : Key, s.tables = expand k)
    (h : step s = .next t) (ht : t.keyed = true) : ∃ k : Key, t.tables = expand k := by
  obtain ⟨htables, hkeyed⟩ | ⟨-, -, hkeyed⟩ | ⟨-, k, -, -, -, htables⟩ := step_instance_cases h
  · rw [htables]; exact hs (hkeyed ▸ ht)
  · rw [hkeyed] at ht; cases ht
  · exact ⟨k, htables⟩

/-- Settles O48: each of the three parts of consistency is kept by what a step can do to ERR and to the instance. -/
theorem everyStepKeepsTheEngineConsistent : Obligations.EveryStepKeepsTheEngineConsistent := by
  unfold Obligations.EveryStepKeepsTheEngineConsistent
  rintro s t ⟨herr, hnone, hkeyed⟩ h
  exact ⟨step_keeps_errOccurs herr h, step_keeps_noInstance_unkeyed hnone h, step_keeps_keyed_expanded hkeyed h⟩

/-- Settles O47: ERR and KEYED are 0 after reset. -/
theorem resetIsConsistent : Obligations.ResetIsConsistent :=
  ⟨.inl rfl, fun _ => rfl, fun h => Bool.noConfusion h⟩

/-- Settles O45: the tables change only when the instance does. -/
theorem tablesChangeOnlyByExpandDropReset : Obligations.TablesChangeOnlyByExpandDropReset := by
  unfold Obligations.TablesChangeOnlyByExpandDropReset
  intro s t _ h hne
  obtain ⟨htables, -⟩ | ⟨rest, hends, -⟩ | ⟨rest, k, hnext, hk, -, -⟩ := step_instance_cases h
  · exact absurd htables hne
  · exact ⟨rest, .inr hends⟩
  · obtain ⟨hlegal, -⟩ := legal_of_registerKey hk
    exact ⟨rest, .inl ⟨hnext, hlegal⟩⟩

/-- Settles O46: KEYED changes only when the instance does, and the new tables are those of the key in the registers. -/
theorem keyedChangesOnlyByExpandDropReset : Obligations.KeyedChangesOnlyByExpandDropReset := by
  unfold Obligations.KeyedChangesOnlyByExpandDropReset
  intro s t h
  obtain ⟨-, hsame⟩ | ⟨rest, hends, hoff⟩ | ⟨rest, k, hnext, hk, hon, htables⟩ := step_instance_cases h
  · constructor <;> (intro hs ht; rw [hsame, hs] at ht; cases ht)
  · exact ⟨fun _ ht => absurd (hoff.symm.trans ht) (by decide), fun _ _ => ⟨rest, hends⟩⟩
  · obtain ⟨hlegal, hbytes⟩ := legal_of_registerKey hk
    exact ⟨fun _ _ => ⟨rest, k, hnext, hlegal, hbytes, htables⟩, fun _ ht => absurd (hon.symm.trans ht) (by decide)⟩

/-! ### Reads -/

/-- STATUS stands at address 0x01 only (R51). -/
theorem toNat_of_regAt_status {a : Addr} : regAt a = .status → a.toNat = 0x01 := by
  revert a; decide

/-- KEYLEN stands at address 0x02 only (R51). -/
theorem toNat_of_regAt_keylen {a : Addr} : regAt a = .keylen → a.toNat = 0x02 := by
  revert a; decide

/-- DOUT stands at 0x10 to 0x17 only (R51). -/
theorem toNat_of_regAt_dout {a : Addr} {i : Fin 8} : regAt a = .dout i → 0x10 ≤ a.toNat ∧ a.toNat ≤ 0x17 := by
  revert a i; decide

/-- A read depends on no more than the register it names (R52): two states answer it alike if they agree there. -/
theorem busRead_congr {s t : State} {a : Addr}
    (hstatus : regAt a = .status → s.keyed = t.keyed ∧ s.err = t.err) (hkeylen : regAt a = .keylen → s.keylen = t.keylen)
    (hdin : s.din = t.din) (hdout : ∀ i, regAt a = .dout i → s.dout = t.dout) : busRead s a = busRead t a := by
  unfold busRead
  cases hr : regAt a with
  | cmd => rfl
  | status => obtain ⟨hkeyed, herr⟩ := hstatus hr; simp only [readReg, hkeyed, herr]
  | keylen => exact hkeylen hr
  | din i => simp only [readReg, hdin]
  | dout i => simp only [readReg, hdout i hr]
  | key i => rfl
  | reserved => rfl

/-- Settles O12: no register a host can read is KEY, P or S. -/
theorem readsRevealNoKeyAndNoTable : Obligations.ReadsRevealNoKeyAndNoTable := by
  unfold Obligations.ReadsRevealNoKeyAndNoTable
  intro s t a hkeyed herr hkeylen hdin hdout
  exact busRead_congr (fun _ => ⟨hkeyed, herr⟩) (fun _ => hkeylen) hdin (fun _ _ => hdout)

/-- Settles O13, field by field of the reset state. -/
theorem resetClearsEveryRegister : Obligations.ResetClearsEveryRegister := by
  unfold Obligations.ResetClearsEveryRegister
  refine ⟨rfl, rfl, rfl, ?_, ?_, ?_, rfl⟩ <;> intro i <;> simp [State.reset]

/-! ### What a command leaves unchanged -/

/-- Settles O21, row by row of the write matrix. -/
theorem commandWriteMatrix : Obligations.CommandWriteMatrix := by
  unfold Obligations.CommandWriteMatrix
  intro i s t h
  obtain ⟨rfl, rfl⟩ | ⟨rfl, rfl⟩ | ⟨rfl, k, -, rfl⟩ | ⟨rfl, -, rfl⟩ | ⟨rfl, -, rfl⟩ | ⟨rfl, -, rfl⟩ | ⟨-, -, rfl⟩ :=
    exec_next_cases h <;> simp

/-- Settles O22: the write matrix, register by register of the address map. -/
theorem commandFrameOnReads : Obligations.CommandFrameOnReads := by
  unfold Obligations.CommandFrameOnReads
  intro i s t a h hstatus hexpand hblock
  obtain ⟨hdin, -, -, -, hkeylen, hdout⟩ := commandWriteMatrix i s t h
  refine busRead_congr (fun hr => absurd (toNat_of_regAt_status hr) hstatus) (fun hr => ?_) hdin (fun j hr => ?_)
  · exact (hkeylen fun hi => hexpand hi (toNat_of_regAt_keylen hr)).1
  · exact hdout (fun hi => hblock (.inl hi) (toNat_of_regAt_dout hr)) (fun hi => hblock (.inr hi) (toNat_of_regAt_dout hr))

/-! ### Outcomes -/

/-- A command leaves its outcome in ERR (R26, R160). -/
theorem exec_err_eq_outcomeCode {i : Instr} {s t : State} (h : exec i s = .next t) :
    t.err = outcomeCode (encode i) s := by
  obtain ⟨rfl, rfl⟩ | ⟨rfl, rfl⟩ | ⟨rfl, k, hk, rfl⟩ | ⟨rfl, hk, rfl⟩ | ⟨rfl, hkeyed, rfl⟩ | ⟨rfl, hkeyed, rfl⟩ |
    ⟨rfl | rfl, hkeyed, rfl⟩ := exec_next_cases h
  · rfl
  · rfl
  · obtain ⟨hlegal, -⟩ := legal_of_registerKey hk
    exact (if_pos hlegal).symm
  · have hillegal : ¬ (4 ≤ s.keylen.toNat ∧ s.keylen.toNat ≤ 56) := fun hlegal => by
      obtain ⟨k, hk', -⟩ := registerKey_of_legal s hlegal
      rw [hk] at hk'; cases hk'
    exact (if_neg hillegal).symm
  all_goals simp [outcomeCode, encode, hkeyed]

/-- The outcome of an illegal opcode is IllegalCommand (R142, R160). -/
theorem outcomeCode_of_illegal {v : Byte} (h : 5 ≤ v.toNat) (s : State) : outcomeCode v s = 4 := by
  unfold outcomeCode
  rw [if_neg (by omega), if_neg (by omega), if_neg (by omega)]

/-- No command reads ERR (R26): only the field that every command overwrites could differ. -/
theorem exec_setErr (i : Instr) (e : BitVec 3) (s : State) : exec i { s with err := e } = exec i s := by
  cases i <;> rfl

/-- Settles O20: a byte written to CMD is a command's opcode or illegal. -/
theorem everyCommandWritesItsOutcome : Obligations.EveryCommandWritesItsOutcome := by
  unfold Obligations.EveryCommandWritesItsOutcome
  intro v s
  simp only [perform_command]
  obtain ⟨i, -, rfl⟩ | ⟨hv, hd⟩ := decode_cases v
  · simp only [runCommand_encode]
    obtain ⟨t, ht⟩ := exec_completes i s
    exact ⟨⟨t, ht, exec_err_eq_outcomeCode ht⟩, fun e => exec_setErr i e s⟩
  · simp only [runCommand_of_illegal hd]
    exact ⟨⟨_, rfl, (outcomeCode_of_illegal hv s).symm⟩, fun e => rfl⟩

/-! ### States a host cannot tell apart -/

namespace HostEquivalent

variable {s t : State}

theorem busRead_eq (h : HostEquivalent s t) (a : Addr) : busRead s a = busRead t a :=
  readsRevealNoKeyAndNoTable s t a h.keyed h.err h.keylen h.din h.dout

theorem withPending (h : HostEquivalent s t) (rest : List HostEvent) :
    HostEquivalent { s with pending := rest } { t with pending := rest } :=
  { h with pending := rfl }

theorem performRead (h : HostEquivalent s t) (a : Addr) : HostEquivalent (performRead a s) (performRead a t) :=
  { h with replies := by simp [h.replies, h.busRead_eq a] }

theorem performReset (h : HostEquivalent s t) : HostEquivalent (performReset s) (performReset t) where
  keyed := rfl
  err := rfl
  keylen := rfl
  key := rfl
  din := rfl
  dout := rfl
  pending := h.pending
  replies := h.replies
  tables := fun hkeyed => Bool.noConfusion hkeyed

theorem storeReg (h : HostEquivalent s t) (r : RegName) (v : Byte) :
    HostEquivalent (storeReg r v s) (storeReg r v t) := by
  cases r with
  | cmd => exact h
  | status => exact h
  | keylen => exact { h with keylen := rfl }
  | din i => exact { h with din := congrArg (·.set i.val v) h.din }
  | dout i => exact h
  | key i => exact { h with key := congrArg (·.set i.val v) h.key }
  | reserved => exact h

theorem raise (h : HostEquivalent s t) (e : EngineError) : HostEquivalent (raise e s) (raise e t) :=
  { h with err := rfl }

theorem succeed (h : HostEquivalent s t) : HostEquivalent (succeed s) (succeed t) :=
  { h with err := rfl }

theorem installKey (h : HostEquivalent s t) (k : Key) : HostEquivalent (installKey k s) (installKey k t) :=
  { h with keyed := rfl, keylen := rfl, key := rfl, tables := fun _ => rfl }

/-- Ending the instance hides the tables, whatever they become (R141). -/
theorem dropInstance (h : HostEquivalent s t) :
    HostEquivalent (loseTables { s with keyed := false }) (loseTables { t with keyed := false }) :=
  { h with keyed := rfl, tables := fun hkeyed => Bool.noConfusion hkeyed }

/-- A block command reads the tables only when they are equal, on a keyed engine (R118, R127). -/
theorem transformBlock (h : HostEquivalent s t) (f : Tables → Block → Block) :
    HostEquivalent (transformBlock f s) (transformBlock f t) := by
  obtain ⟨hs, hfs⟩ | ⟨hs, hfs⟩ := transformBlock_cases f s <;>
    obtain ⟨ht, hft⟩ | ⟨ht, hft⟩ := transformBlock_cases f t
  · rw [hfs, hft]
    exact { h with err := rfl, dout := by simp [h.tables hs, h.din] }
  · exact absurd (hs.symm.trans (h.keyed.trans ht)) (by decide)
  · exact absurd (hs.symm.trans (h.keyed.trans ht)) (by decide)
  · rw [hfs, hft]
    exact h.raise .noInstance

/-- Every command takes two such states to two such states. -/
theorem exec (h : HostEquivalent s t) (i : Instr) :
    ∃ s' t' : State, exec i s = .next s' ∧ exec i t = .next t' ∧ HostEquivalent s' t' := by
  cases i with
  | nop => exact ⟨_, _, rfl, rfl, h.succeed⟩
  | drop => exact ⟨_, _, rfl, rfl, h.dropInstance.succeed⟩
  | expand =>
    have hsame : registerKey t = registerKey s := (registerKey_congr h.keylen h.key).symm
    cases hk : registerKey s with
    | none => exact ⟨_, _, exec_expand_of_noKey hk, exec_expand_of_noKey (hsame.trans hk), h.raise _⟩
    | some k => exact ⟨_, _, exec_expand_of_key hk, exec_expand_of_key (hsame.trans hk), (h.installKey k).succeed⟩
  | encrypt => exact ⟨_, _, rfl, rfl, h.transformBlock encBlock⟩
  | decrypt => exact ⟨_, _, rfl, rfl, h.transformBlock decBlock⟩

/-- Every host event takes two such states to two such states. -/
theorem perform (h : HostEquivalent s t) (e : HostEvent) :
    ∃ s' t' : State, perform e s = .next s' ∧ perform e t = .next t' ∧ HostEquivalent s' t' := by
  cases e with
  | read a => exact ⟨_, _, rfl, rfl, h.performRead a⟩
  | reset => exact ⟨_, _, rfl, rfl, h.performReset⟩
  | write a v =>
    by_cases ha : a = cmdAddr
    · subst ha
      simp only [perform_command]
      obtain ⟨i, -, rfl⟩ | ⟨-, hd⟩ := decode_cases v
      · simpa only [runCommand_encode] using h.exec i
      · exact ⟨_, _, runCommand_of_illegal hd s, runCommand_of_illegal hd t, h.raise _⟩
    · exact ⟨_, _, perform_store ha v s, perform_store ha v t, h.storeReg _ v⟩

end HostEquivalent

/-- Settles O49: both engines perform the same event, and no event reads the tables of an engine without an instance. -/
theorem unspecifiedTablesStayHidden : Obligations.UnspecifiedTablesStayHidden := by
  unfold Obligations.UnspecifiedTablesStayHidden
  intro s t h
  cases hp : s.pending with
  | nil => exact ⟨s, t, step_of_idle hp, step_of_idle (h.pending.symm.trans hp), h⟩
  | cons e rest =>
    rw [step_of_event hp, step_of_event (h.pending.symm.trans hp)]
    exact (h.withPending rest).perform e

/-- Settles O50, by induction on the number of steps. -/
theorem hostNeverReadsUnspecifiedTables : Obligations.HostNeverReadsUnspecifiedTables := by
  unfold Obligations.HostNeverReadsUnspecifiedTables
  intro n
  induction n with
  | zero => exact fun s t h => ⟨s, t, rfl, rfl, h.replies⟩
  | succ n ih =>
    intro s t h
    obtain ⟨s', t', hs, ht, h'⟩ := unspecifiedTablesStayHidden s t h
    rw [runSteps_of_step hs, runSteps_of_step ht]
    exact ih s' t' h'

/-! ### Several engines -/

/-- Settles O54: the event completes at engine k, and only engine k's state is replaced. -/
theorem enginesAreIndependent : Obligations.EnginesAreIndependent := by
  unfold Obligations.EnginesAreIndependent
  intro n chip k e
  obtain ⟨s, hs⟩ := perform_completes e chip[k]
  refine ⟨chip.set k.val s, ?_, ?_, fun j hj => ?_⟩
  · unfold chipPerform; rw [hs]
  · rw [hs]; simp
  · exact Vector.getElem_set_ne _ _ fun hkj => hj (Fin.ext hkj.symm)

end Sys2Proof.Machine

/-! SUPPORT. Proofs of the statements about the register port: the idle and the completing step, what a read and a write
of each address do, and the wait states of an access at the pins. -/

namespace Sys2Proof.Machine

/-! ### Idle and completing steps -/

/-- Settles O6: a step performs the host's events and nothing else. -/
theorem engineWaitsForTheHost : Obligations.EngineWaitsForTheHost :=
  fun _ h => step_of_idle h

/-- Settles O7: a step idles or performs a host event, and every host event completes. -/
theorem everyStepCompletes : Obligations.EveryStepCompletes := by
  unfold Obligations.EveryStepCompletes
  intro s
  obtain ⟨-, h⟩ | ⟨e, rest, -, h⟩ := step_cases s
  · exact ⟨s, h⟩
  · rw [h]; exact perform_completes e _

/-! ### The register port, by the register at the address -/

@[simp] theorem regAt_statusAddr : regAt statusAddr = .status := by decide

@[simp] theorem regAt_keylenAddr : regAt keylenAddr = .keylen := by decide

/-- A read of an address returns what its register reads as (R52). -/
theorem busRead_of_regAt {a : Addr} {r : RegName} (h : regAt a = r) (s : State) : busRead s a = readReg s r :=
  congrArg (readReg s) h

/-- A write to an address whose register is not CMD stores the byte there, or is ignored (R52). -/
theorem perform_write_of_regAt {a : Addr} {r : RegName} (h : regAt a = r) (hr : r ≠ .cmd) (v : Byte) (s : State) :
    perform (.write a v) s = .next (storeReg r v s) := by
  subst h
  exact perform_store (mt (regAt_eq_cmd_iff a).2 hr) v s

/-- Settles O8, register by register of the address map. -/
theorem busReadReturnsTheMappedByte : Obligations.BusReadReturnsTheMappedByte := by
  unfold Obligations.BusReadReturnsTheMappedByte
  intro s
  refine ⟨?cmd, ?status, ?keylen, ?din, ?dout, ?key, ?reserved, ?frame⟩
  case cmd => exact busRead_of_regAt regAt_cmdAddr s
  case status => exact busRead_of_regAt regAt_statusAddr s
  case keylen => exact busRead_of_regAt regAt_keylenAddr s
  case din => exact fun i => busRead_of_regAt (regAt_din i) s
  case dout => exact fun i => busRead_of_regAt (regAt_dout i) s
  case key => exact fun i => busRead_of_regAt (regAt_key i) s
  case reserved => exact fun a ha => busRead_of_regAt (regAt_reserved a ha) s
  case frame => exact fun a => perform_read a s

/-- Settles O9, register by register of the address map. -/
theorem busWriteStoresOrIsIgnored : Obligations.BusWriteStoresOrIsIgnored := by
  unfold Obligations.BusWriteStoresOrIsIgnored
  intro s v
  refine ⟨?cmd, ?status, ?keylen, ?din, ?dout, ?key, ?reserved⟩
  case cmd => exact perform_command v s
  case status => exact perform_write_of_regAt regAt_statusAddr (by decide) v s
  case keylen => exact perform_write_of_regAt regAt_keylenAddr (by decide) v s
  case din => exact fun i => perform_write_of_regAt (regAt_din i) nofun v s
  case dout => exact fun i => perform_write_of_regAt (regAt_dout i) nofun v s
  case key => exact fun i => perform_write_of_regAt (regAt_key i) nofun v s
  case reserved => exact fun a ha => perform_write_of_regAt (regAt_reserved a ha) nofun v s

/-- A byte stored twice is stored once (R56). -/
theorem storeReg_storeReg (r : RegName) (v : Byte) (s : State) : storeReg r v (storeReg r v s) = storeReg r v s := by
  cases r with
  | din i => simp [storeReg]
  | key i => simp [storeReg]
  | cmd | status | keylen | dout _ | reserved => rfl

/-- Settles O10: away from CMD a write is a store, and a store is idempotent. -/
theorem plainWritesAreIdempotent : Obligations.PlainWritesAreIdempotent := by
  unfold Obligations.PlainWritesAreIdempotent
  intro a v s t ha h
  rw [perform_store ha] at h
  cases h
  rw [perform_store ha, storeReg_storeReg]

/-! ### Wait states -/

@[simp] theorem waitStates_read (a : Addr) (s : State) : waitStates (.read a) s = 0 := rfl

/-- A write to CMD waits as its byte says (R63). -/
@[simp] theorem waitStates_command (v : Byte) (s : State) : waitStates (.write cmdAddr v) s = commandWaitStates v s := by
  simp [waitStates]

/-- A write to any other address never waits (R63). -/
theorem waitStates_store {a : Addr} (h : a ≠ cmdAddr) (v : Byte) (s : State) : waitStates (.write a v) s = 0 :=
  if_neg (mt (regAt_eq_cmd_iff a).1 h)

/-- The registers hold a key exactly when the length check passes (R92). -/
theorem registerKey_isSome_iff (s : State) : (registerKey s).isSome = true ↔ legalKeyLength s := by
  constructor
  · intro h
    obtain ⟨k, hk⟩ := Option.isSome_iff_exists.1 h
    exact (legal_of_registerKey hk).1
  · intro h
    obtain ⟨k, hk, -⟩ := registerKey_of_legal s h
    rw [hk]; rfl

theorem commandWaitStates_expand_of_legal {s : State} (h : legalKeyLength s) :
    commandWaitStates 0x01#8 s = Config.tExpand :=
  if_pos ((registerKey_isSome_iff s).2 h)

theorem commandWaitStates_expand_of_illegal {s : State} (h : ¬ legalKeyLength s) : commandWaitStates 0x01#8 s = 0 :=
  if_neg (mt (registerKey_isSome_iff s).1 h)

theorem commandWaitStates_encrypt (s : State) :
    commandWaitStates 0x02#8 s = if s.keyed then Config.tBlock else 0 := rfl

theorem commandWaitStates_decrypt (s : State) :
    commandWaitStates 0x03#8 s = if s.keyed then Config.tBlock else 0 := rfl

/-- No byte but those of EXPAND, ENCRYPT and DECRYPT waits: neither NOP, nor DROP, nor an illegal opcode (R63). -/
theorem commandWaitStates_of_short {v : Byte} (hexpand : v ≠ 0x01#8) (hencrypt : v ≠ 0x02#8) (hdecrypt : v ≠ 0x03#8)
    (s : State) : commandWaitStates v s = 0 := by
  obtain ⟨i, -, rfl⟩ | ⟨-, hd⟩ := decode_cases v
  · cases i with
    | nop => rfl
    | drop => rfl
    | expand => exact absurd rfl hexpand
    | encrypt => exact absurd rfl hencrypt
    | decrypt => exact absurd rfl hdecrypt
  · unfold commandWaitStates; rw [hd]

/-- Settles O52: access by access, a write to CMD by its byte. -/
theorem onlyLongCommandsWait : Obligations.OnlyLongCommandsWait := by
  unfold Obligations.OnlyLongCommandsWait
  intro s a v
  simp only [waitStates_command, commandWaitStates_encrypt, commandWaitStates_decrypt]
  refine ⟨waitStates_read a s, fun ha => waitStates_store ha v s, commandWaitStates_expand_of_legal,
    fun hkeyed => if_pos hkeyed, fun hkeyed => if_pos hkeyed, commandWaitStates_expand_of_illegal, fun hkeyed => ?_,
    fun hexpand hencrypt hdecrypt => commandWaitStates_of_short hexpand hencrypt hdecrypt s⟩
  simp [hkeyed]

/-! ### A held access at the pins -/

section HeldAccess

variable {i : PinIn} {p q r : PinState}

/-- One more cycle of held pins. -/
theorem holdPins_succ {n : Nat} {outs : List PinOut} {out : PinOut} (hn : holdPins i p n = .next (q, outs))
    (hedge : clockEdge q i = .next (r, out)) : holdPins i p (n + 1) = .next (r, outs ++ [out]) := by
  simp only [holdPins, hn, hedge]

variable (hrst : i.rst = false) (hsel : i.sel = true)
include hrst hsel

/-- An access that has had too few wait states gets one more, and nothing else happens (R63). -/
theorem clockEdge_of_waiting (h : p.waited < waitStates (presentedAccess i) p.engine) :
    clockEdge p i = .next ({ p with waited := p.waited + 1 }, ⟨false, none⟩) := by
  simp [clockEdge, hrst, hsel, h]

/-- An access that has had its wait states is performed, as one event (R63). -/
theorem clockEdge_of_waited {t : State} (h : waitStates (presentedAccess i) p.engine ≤ p.waited)
    (hperform : perform (presentedAccess i) p.engine = .next t) :
    clockEdge p i = .next (⟨t, 0⟩, ⟨true, completedData (presentedAccess i) p.engine⟩) := by
  simp [clockEdge, completeAccess, hrst, hsel, hperform, Nat.not_lt.2 h]

/-- Throughout its wait states a held access leaves the engine unchanged and is not ready (R63). -/
theorem holdPins_of_waiting {s : State} {n : Nat} (hn : n ≤ waitStates (presentedAccess i) s) :
    holdPins i ⟨s, 0⟩ n = .next (⟨s, n⟩, List.replicate n ⟨false, none⟩) := by
  induction n with
  | zero => rfl
  | succ n ih =>
    rw [List.replicate_succ']
    exact holdPins_succ (ih (Nat.le_of_succ_le hn)) (clockEdge_of_waiting (p := ⟨s, n⟩) hrst hsel hn)

end HeldAccess

/-- Settles O51: the wait states one by one, then the completing cycle. -/
theorem heldAccessCompletesAfterItsWaitStates : Obligations.HeldAccessCompletesAfterItsWaitStates := by
  unfold Obligations.HeldAccessCompletesAfterItsWaitStates
  rintro i s t hrst hsel hperform _ rfl
  have hwait := fun n => holdPins_of_waiting (s := s) (n := n) hrst hsel
  exact ⟨hwait, holdPins_succ (hwait _ le_rfl) (clockEdge_of_waited hrst hsel le_rfl hperform)⟩

end Sys2Proof.Machine

/-! SUPPORT. Proofs of the statements about the encodings: the opcode map, the STATUS byte, the triple of an access line,
and the pseudo-operations, whose runs are composed from the runs of their parts. -/

namespace Sys2Proof.Machine

/-! ### The opcode map and the access triple -/

/-- A byte decodes to a command exactly when it is the command's opcode (R71). -/
theorem decode_eq_ok_iff (v : Byte) (i : Instr) : decode v = .ok i ↔ v = encode i := by
  constructor
  · intro h
    obtain ⟨j, hj, rfl⟩ | ⟨-, hillegal⟩ := decode_cases v
    · rw [hj] at h; cases h; rfl
    · rw [hillegal] at h; cases h
  · rintro rfl
    cases i <;> rfl

/-- Settles O1, row by row of the opcode map. -/
theorem opcodeMapDecodesExactly : Obligations.OpcodeMapDecodesExactly :=
  fun v => ⟨decode_eq_ok_iff v .nop, decode_eq_ok_iff v .expand, decode_eq_ok_iff v .encrypt,
    decode_eq_ok_iff v .decrypt, decode_eq_ok_iff v .drop⟩

/-- Settles O2: both directions of `decode_eq_ok_iff`. -/
theorem decodeAndEncodeAgree : Obligations.DecodeAndEncodeAgree :=
  ⟨fun i _ => (decode_eq_ok_iff _ i).2 rfl, fun v i h => ((decode_eq_ok_iff v i).1 h).symm⟩

/-- Settles O3: the decoder rejects the byte, and a rejected byte raises IllegalCommand. -/
theorem illegalOpcodeRaisesIllegalCommand : Obligations.IllegalOpcodeRaisesIllegalCommand := by
  unfold Obligations.IllegalOpcodeRaisesIllegalCommand
  intro v s hv
  have hreject := decode_of_illegal hv
  refine ⟨hreject, ?_⟩
  rw [perform_command, runCommand_of_illegal hreject]
  rfl

/-- An event with a triple is the access the triple spells out (R76). -/
theorem access_of_accessTriple {e : HostEvent} {x : Bool × Addr × Option Byte} (h : accessTriple e = some x) :
    (∃ a : Addr, e = .read a ∧ x = (false, a, none)) ∨
    (∃ (a : Addr) (v : Byte), e = .write a v ∧ x = (true, a, some v)) := by
  cases e with
  | read a => cases h; exact .inl ⟨a, rfl, rfl⟩
  | write a v => cases h; exact .inr ⟨a, v, rfl, rfl⟩
  | reset => cases h

/-- Settles O4: the triple tells a read from a write, and gives back the address and the data. -/
theorem accessTripleNamesTheAccess : Obligations.AccessTripleNamesTheAccess := by
  unfold Obligations.AccessTripleNamesTheAccess
  intro e f x he hf
  obtain ⟨a, rfl, rfl⟩ | ⟨a, v, rfl, rfl⟩ := access_of_accessTriple he
  · obtain ⟨_, rfl, hx⟩ | ⟨_, _, -, hx⟩ := access_of_accessTriple hf <;> cases hx
    rfl
  · obtain ⟨_, -, hx⟩ | ⟨_, _, rfl, hx⟩ := access_of_accessTriple hf <;> cases hx
    rfl

/-! ### The STATUS byte -/

@[simp] theorem statusByte_keyed_ok : statusByte true 0#3 = 0x01#8 := rfl
@[simp] theorem statusByte_unkeyed_noInstance : statusByte false 3#3 = 0x30#8 := rfl

/-- STATUS after InvalidKeyLength, with and without an instance (R73, R74). -/
@[simp] theorem statusByte_invalidKeyLength (keyed : Bool) :
    statusByte keyed 1#3 = if keyed then 0x11#8 else 0x10#8 := by
  cases keyed <;> rfl

/-- The fields of STATUS stand at bits 6:4 and 0 (R73). -/
theorem statusByte_eq_shift_or (keyed : Bool) (err : BitVec 3) :
    statusByte keyed err = (err.zeroExtend 8 <<< 4) ||| (BitVec.ofBool keyed).zeroExtend 8 := by
  revert keyed err; decide

/-- The codes that occur, NoInstance only with KEYED = 0, give no other STATUS byte than these seven (R73). -/
theorem statusByte_mem_of_codes : ∀ (keyed : Bool) (err : BitVec 3),
    err = 0 ∨ err = 1 ∨ err = 3 ∨ err = 4 → (err = 3 → keyed = false) →
      statusByte keyed err ∈ [0x00#8, 0x01#8, 0x10#8, 0x11#8, 0x30#8, 0x40#8, 0x41#8] := by
  decide

/-- Settles O11: the layout of the STATUS byte, then the codes that occur. -/
theorem statusReadsOneOfSevenValues : Obligations.StatusReadsOneOfSevenValues := by
  unfold Obligations.StatusReadsOneOfSevenValues
  intro s
  have hread : busRead s 0x01#7 = statusByte s.keyed s.err := busRead_of_regAt regAt_statusAddr s
  rw [hread]
  exact ⟨statusByte_eq_shift_or s.keyed s.err,
    fun h => statusByte_mem_of_codes s.keyed s.err h.err_occurs h.noInstance_unkeyed⟩

/-! ### Runs of the parts of a pseudo-operation -/

/-- A run whose next event is a write to a register other than CMD, named by the register (R52). -/
theorem runSteps_of_write {n : Nat} {s : State} {a : Addr} {r : RegName} {v : Byte} {rest : List HostEvent}
    (ha : regAt a = r) (hr : r ≠ .cmd) (h : s.pending = .write a v :: rest) :
    runSteps (n + 1) s = runSteps n (storeReg r v { s with pending := rest }) :=
  runSteps_of_step (by rw [step_of_event h, perform_write_of_regAt ha hr])

/-- A read does not depend on the queue, nor on the bytes the host has received (R52). -/
@[simp] theorem busRead_withQueueAndReplies (s : State) (pending : List HostEvent) (replies : List Byte) :
    busRead { s with pending := pending, replies := replies } = busRead s := rfl

/-- A run whose next events are reads: each byte goes to the host, and nothing else changes (R52). -/
theorem runSteps_of_reads {n : Nat} {s : State} {rest : List HostEvent} (as : List Addr)
    (h : s.pending = as.map .read ++ rest) :
    runSteps (n + as.length) s = runSteps n { s with pending := rest, replies := s.replies ++ as.map (busRead s) } := by
  induction as generalizing s with
  | nil =>
    obtain rfl : s.pending = rest := h
    simp
  | cons a as ih =>
    rw [List.length_cons, ← Nat.add_assoc, runSteps_of_read h, ih rfl]
    simp [performRead]

/-- The bytes at the eight addresses of DOUT are DOUT (R51, R54). -/
theorem map_busRead_doutAddr (s : State) :
    (List.finRange 8).map (fun i => busRead s (doutAddr i.val)) = s.dout.toList := by
  refine List.ext_getElem (by simp) fun i hi _ => ?_
  have hi8 : i < 8 := by simpa using hi
  rw [List.getElem_map, List.getElem_finRange, Vector.getElem_toList]
  exact busRead_of_regAt (regAt_dout ⟨i, hi8⟩) s

/-- READBLK (R77): the host reads the eight bytes of DOUT. -/
theorem runSteps_of_readBlk {n : Nat} {s : State} {rest : List HostEvent} (h : s.pending = readBlkEvents ++ rest) :
    runSteps (n + 8) s = runSteps n { s with pending := rest, replies := s.replies ++ s.dout.toList } := by
  rw [← map_busRead_doutAddr s]
  exact runSteps_of_reads ((List.finRange 8).map fun i => doutAddr i.val) h

/-- Eight bytes stored at all eight positions of a block are the block (R54). -/
theorem block_set_all (d b : Block) :
    (((((((d.set 0 b[0]).set 1 b[1]).set 2 b[2]).set 3 b[3]).set 4 b[4]).set 5 b[5]).set 6 b[6]).set 7 b[7] = b := by
  ext i hi
  interval_cases i <;> simp

/-- LOADBLK (R77): DIN takes the block. -/
theorem runSteps_of_loadBlk {n : Nat} {s : State} {b : Block} {rest : List HostEvent}
    (h : s.pending = loadBlkEvents b ++ rest) :
    runSteps (n + 8) s = runSteps n { s with pending := rest, din := b } := by
  have hdin : ∀ i : Fin 8, RegName.din i ≠ .cmd := nofun
  rw [runSteps_of_write (regAt_din 0) (hdin 0) h, runSteps_of_write (regAt_din 1) (hdin 1) rfl,
    runSteps_of_write (regAt_din 2) (hdin 2) rfl, runSteps_of_write (regAt_din 3) (hdin 3) rfl,
    runSteps_of_write (regAt_din 4) (hdin 4) rfl, runSteps_of_write (regAt_din 5) (hdin 5) rfl,
    runSteps_of_write (regAt_din 6) (hdin 6) rfl, runSteps_of_write (regAt_din 7) (hdin 7) rfl]
  simp [storeReg, block_set_all]

/-- A command and then a read of STATUS (R77): the command's effect, and its STATUS to the host. -/
theorem runSteps_of_commandThenStatus {n : Nat} {s t : State} {i : Instr} {rest : List HostEvent}
    (h : s.pending = commandThenStatus i ++ rest) (hx : exec i { s with pending := .read statusAddr :: rest } = .next t) :
    runSteps (n + 2) s =
      runSteps n { t with pending := rest, replies := s.replies ++ [statusByte t.keyed t.err] } := by
  obtain ⟨-, hpending, hreplies, -⟩ := commandWriteMatrix i _ t hx
  rw [runSteps_of_command h hx, runSteps_of_read hpending, performRead, busRead_of_regAt regAt_statusAddr]
  simp [readReg, hreplies]

/-! ### ENC and DEC -/

theorem transformBlock_of_keyed {s : State} (h : s.keyed = true) (f : Tables → Block → Block) :
    transformBlock f s = succeed { s with dout := f s.tables s.din } :=
  if_pos h

theorem transformBlock_of_unkeyed {s : State} (h : s.keyed = false) (f : Tables → Block → Block) :
    transformBlock f s = raise .noInstance s :=
  if_neg (by simp [h])

/-- The 18 accesses around a command: load DIN, run the command, read STATUS, read DOUT (R77). -/
theorem runSteps_of_blockOp {s t : State} {b : Block} {i : Instr}
    (h : s.pending = loadBlkEvents b ++ commandThenStatus i ++ readBlkEvents)
    (hx : exec i { s with din := b, pending := .read statusAddr :: readBlkEvents } = .next t) :
    runSteps 18 s =
      .next { t with pending := [], replies := s.replies ++ [statusByte t.keyed t.err] ++ t.dout.toList } := by
  rw [List.append_assoc] at h
  rw [runSteps_of_loadBlk (n := 10) h, runSteps_of_commandThenStatus (n := 8) rfl hx,
    runSteps_of_readBlk (n := 0) (rest := []) (List.append_nil _).symm, runSteps_zero]

/-- A pseudo-operation around a block command gives the host the transform of its block, or NoInstance and the old DOUT
(R77, R118, R127). -/
theorem blockOp_returns_transform {i : Instr} {f : Tables → Block → Block} {op : PseudoOp} {b : Block}
    (hexec : ∀ s : State, exec i s = .next (transformBlock f s))
    (hop : op.events = loadBlkEvents b ++ commandThenStatus i ++ readBlkEvents) {s : State} (hs : s.pending = []) :
    (s.keyed = true →
      runSteps 18 (queueOp op s) =
        .next { s with
          din := b, dout := f s.tables b, err := 0, replies := s.replies ++ [0x01#8] ++ (f s.tables b).toList }) ∧
    (s.keyed = false →
      runSteps 18 (queueOp op s) =
        .next { s with din := b, err := 3, replies := s.replies ++ [0x30#8] ++ s.dout.toList }) := by
  have hpending : (queueOp op s).pending = loadBlkEvents b ++ commandThenStatus i ++ readBlkEvents := by
    rw [queueOp_pending, hs, hop, List.nil_append]
  constructor <;> intro hkeyed
  · have hx := fun s' hs' => (hexec s').trans (congrArg _ (transformBlock_of_keyed hs' f))
    rw [runSteps_of_blockOp hpending (hx _ hkeyed)]
    simp [succeed, queueOp, hs, hkeyed]
  · have hx := fun s' hs' => (hexec s').trans (congrArg _ (transformBlock_of_unkeyed hs' f))
    rw [runSteps_of_blockOp hpending (hx _ hkeyed)]
    simp [raise, queueOp, hs, hkeyed]

/-- Settles O55: ENC is the 18 accesses around ENCRYPT. -/
theorem encPseudoOperationReturnsTheCiphertext : Obligations.EncPseudoOperationReturnsTheCiphertext :=
  fun _ _ hs => blockOp_returns_transform (fun _ => rfl) rfl hs

/-- Settles O56: DEC is the 18 accesses around DECRYPT. -/
theorem decPseudoOperationReturnsThePlaintext : Obligations.DecPseudoOperationReturnsThePlaintext :=
  fun _ _ hs => blockOp_returns_transform (fun _ => rfl) rfl hs

/-! ### SETKEY -/

/-- A byte stored at KEY[i] follows the first i bytes of KEY. -/
theorem take_set_key {i : Nat} (hi : i < 56) (key : Vector Byte 56) (b : Byte) :
    (key.set i b).toList.take (i + 1) = key.toList.take i ++ [b] := by
  rw [Vector.toList_set, List.take_succ_eq_append_getElem (by simpa using hi)]
  simp [List.take_set, List.set_eq_of_length_le]

/-- The writes of `bytes` from KEY[start] on put them there, keep what stands before, and change nothing else (R77). -/
theorem runSteps_of_writeKeyBytes {n : Nat} {rest : List HostEvent} (bytes : List Byte) {start : Nat} {s : State}
    (hfit : start + bytes.length ≤ 56) (h : s.pending = writeKeyBytes start bytes ++ rest) :
    ∃ key : Vector Byte 56,
      key.toList.take (start + bytes.length) = s.key.toList.take start ++ bytes ∧
      runSteps (n + bytes.length) s = runSteps n { s with pending := rest, key := key } := by
  induction bytes generalizing start s with
  | nil =>
    obtain rfl : s.pending = rest := h
    exact ⟨s.key, by simp, rfl⟩
  | cons b bs ih =>
    rw [List.length_cons] at hfit
    have hstart : start < 56 := by omega
    have hsum : start + (bs.length + 1) = start + 1 + bs.length := by omega
    obtain ⟨key, hkey, hrun⟩ := ih (start := start + 1) (hsum ▸ hfit)
      (s := storeReg (.key ⟨start, hstart⟩) b { s with pending := writeKeyBytes (start + 1) bs ++ rest }) rfl
    refine ⟨key, ?_, ?_⟩
    · rw [List.length_cons, hsum, hkey, store_key_key, take_set_key hstart]
      simp
    · rw [List.length_cons, ← Nat.add_assoc]
      exact (runSteps_of_write (regAt_key ⟨start, hstart⟩) nofun h).trans hrun

/-- LOADKEY (R77): KEY begins with the bytes and KEYLEN is their number. -/
theorem runSteps_of_loadKey {n : Nat} {rest : List HostEvent} {bytes : List Byte} {s : State}
    (hfit : bytes.length ≤ 56) (h : s.pending = loadKeyEvents bytes ++ rest) :
    ∃ key : Vector Byte 56,
      key.toList.take bytes.length = bytes ∧
      runSteps (n + 1 + bytes.length) s =
        runSteps n { s with pending := rest, key := key, keylen := BitVec.ofNat 8 bytes.length } := by
  rw [loadKeyEvents, List.append_assoc] at h
  obtain ⟨key, hkey, hrun⟩ := runSteps_of_writeKeyBytes (n := n + 1) bytes (by omega) h
  refine ⟨key, by simpa using hkey, ?_⟩
  rw [hrun, runSteps_of_write regAt_keylenAddr nofun rfl]
  rfl

/-- SETKEY (R77): LOADKEY, EXPAND, and a read of STATUS; EXPAND finds the bytes in KEY and their number in KEYLEN. -/
theorem runSteps_of_setKey {bytes : List Byte} {s : State} (hfit : bytes.length ≤ 56)
    (h : s.pending = loadKeyEvents bytes ++ commandThenStatus .expand) :
    ∃ u : State, u.keylen.toNat = bytes.length ∧ u.key.toList.take bytes.length = bytes ∧
      u.keyed = s.keyed ∧ u.tables = s.tables ∧
      ∀ t : State, exec .expand u = .next t →
        runSteps (bytes.length + 3) s =
          .next { t with pending := [], replies := s.replies ++ [statusByte t.keyed t.err] } := by
  obtain ⟨key, hkey, hrun⟩ := runSteps_of_loadKey (n := 2) hfit h
  refine ⟨{ s with pending := [.read statusAddr], key := key, keylen := BitVec.ofNat 8 bytes.length },
    ?_, hkey, rfl, rfl, fun t ht => ?_⟩
  · exact Nat.mod_eq_of_lt (by omega)
  · rw [Nat.add_comm, hrun, runSteps_of_commandThenStatus (n := 0) (rest := []) rfl ht, runSteps_zero]

/-- Settles O57: EXPAND takes the bytes as its key if there are enough of them, and fails its length check otherwise. -/
theorem setKeyPseudoOperationInstallsTheKey : Obligations.SetKeyPseudoOperationInstallsTheKey := by
  unfold Obligations.SetKeyPseudoOperationInstallsTheKey
  intro s bytes hs hwf
  have hfit : bytes.length ≤ 56 := of_decide_eq_true hwf
  have hpending : (queueOp (.setKey bytes) s).pending = loadKeyEvents bytes ++ commandThenStatus .expand := by
    rw [queueOp_pending, hs, List.nil_append, PseudoOp.events]
  obtain ⟨u, hlen, hkey, hkeyed, htables, hrun⟩ := runSteps_of_setKey hfit hpending
  by_cases hlegal : 4 ≤ bytes.length
  · obtain ⟨k, hk, hbytes⟩ := registerKey_of_legal u (by omega)
    rw [hlen, hkey] at hbytes
    refine ⟨_, hrun _ (exec_expand_of_key hk), fun k' hk' => ?_, fun hshort => absurd hlegal (by omega)⟩
    obtain rfl : k' = k := key_eq_of_bytes (hk'.trans hbytes.symm)
    exact ⟨rfl, rfl, by simp⟩
  · have hnone := registerKey_of_illegal u (by omega)
    refine ⟨_, hrun _ (exec_expand_of_noKey hnone), fun k hk => absurd (hk ▸ k.legal.1) hlegal, fun _ => ?_⟩
    exact ⟨hkeyed, htables, by simp [hkeyed]⟩

end Sys2Proof.Machine

/-! SUPPORT. Proofs of the statements about key expansion: EXPAND and its length check, what it reads of the registers,
how the key enters the schedule, and the numbering of the encryptions. -/

namespace Sys2Proof.Machine

/-! ### The command EXPAND -/

/-- Writing 0x01 to CMD is EXPAND (R71). -/
theorem perform_write_expand (s : State) : perform (.write cmdAddr 0x01#8) s = exec .expand s :=
  (perform_command _ s).trans (runCommand_encode .expand s)

/-- EXPAND with a legal KEYLEN installs the key of the first KEYLEN bytes (R90). -/
theorem exec_expand_of_legal {s : State} (h : legalKeyLength s) :
    ∃ k : Key, k.bytes = s.key.toList.take s.keylen.toNat ∧ exec .expand s = .next (succeed (installKey k s)) := by
  obtain ⟨k, hk, hbytes⟩ := registerKey_of_legal s h
  exact ⟨k, hbytes, exec_expand_of_key hk⟩

/-- EXPAND with an illegal KEYLEN raises InvalidKeyLength (R92). -/
theorem exec_expand_of_illegal {s : State} (h : ¬ legalKeyLength s) :
    exec .expand s = .next (raise .invalidKeyLength s) :=
  exec_expand_of_noKey (registerKey_of_illegal s h)

theorem not_legalKeyLength_iff (s : State) : ¬ legalKeyLength s ↔ s.keylen.toNat < 4 ∨ 56 < s.keylen.toNat := by
  unfold legalKeyLength; omega

/-- An EXPAND that succeeds clears KEYLEN, and 0 is no legal length (R98). -/
theorem not_legalKeyLength_of_installKey (k : Key) (s : State) : ¬ legalKeyLength (succeed (installKey k s)) := by
  rw [not_legalKeyLength_iff, succeed_keylen, installKey_keylen]
  decide

/-- Settles O23: the two sides of the length check. -/
theorem expandInstallsTheKey : Obligations.ExpandInstallsTheKey := by
  intro s
  refine ⟨perform_write_expand s, fun hmin hmax => ?_, fun h => ?_⟩
  · exact exec_expand_of_legal ⟨hmin, hmax⟩
  · exact exec_expand_of_illegal ((not_legalKeyLength_iff s).2 h)

/-- Settles O24: the two sides of the length check, at the port. -/
theorem expandChecksTheKeyLengthFirst : Obligations.ExpandChecksTheKeyLengthFirst := by
  intro s
  rw [perform_write_expand]
  refine ⟨fun h => exec_expand_of_illegal ((not_legalKeyLength_iff s).2 h), fun h => ?_⟩
  obtain ⟨k, -, hexec⟩ := exec_expand_of_legal h
  exact ⟨_, hexec, rfl, rfl⟩

/-- Settles O25: both states hold the same key, and the tables installed depend on the key alone. -/
theorem expandForgetsTheOldInstance : Obligations.ExpandForgetsTheOldInstance := by
  intro s t hs hlen hkey
  obtain ⟨k, hk, -⟩ := registerKey_of_legal s hs
  have hk' : registerKey t = some k := (registerKey_congr hlen hkey).trans hk
  exact ⟨_, _, exec_expand_of_key hk, exec_expand_of_key hk', rfl, rfl, rfl⟩

/-- Settles O26: a successful EXPAND leaves an illegal KEYLEN, and a failed one changes ERR alone. -/
theorem secondExpandFails : Obligations.SecondExpandFails := by
  intro s
  refine ⟨fun h => ?_, fun h => ⟨_, exec_expand_of_illegal h, rfl, rfl⟩⟩
  obtain ⟨k, -, hexec⟩ := exec_expand_of_legal h
  exact ⟨_, hexec, exec_expand_of_illegal (not_legalKeyLength_of_installKey k s)⟩

/-- Settles O27: a byte at or above KEYLEN is not among the bytes of the key, and EXPAND clears it. -/
theorem keyBytesBeyondTheLengthAreIgnored : Obligations.KeyBytesBeyondTheLengthAreIgnored := by
  intro s i v hs hi
  obtain ⟨k, hbytes, hexec⟩ := exec_expand_of_legal hs
  obtain ⟨k', hbytes', hexec'⟩ := exec_expand_of_legal (s := { s with key := s.key.set i.val v }) hs
  have hkk' : k' = k := by
    refine key_eq_of_bytes (hbytes'.trans (Eq.trans ?_ hbytes.symm))
    rw [Vector.toList_set, List.take_set_of_le hi]
  rw [hexec, hexec', hkk']
  rfl

/-! ### The key in the schedule -/

/-- Settles O29: step 1 copies the constants, step 2 XORs the key words into P. -/
theorem keyIsMixedIntoTheConstants : Obligations.KeyIsMixedIntoTheConstants := by
  refine fun k => ⟨fun i => ?_, rfl⟩
  simp [mixKey, initialTables]

/-- The cyclic stream as a lookup that is always in range (R94). -/
theorem Key.getElem?_mod_length (k : Key) (n : Nat) : k.bytes[n % k.bytes.length]? = some (k.byteAt n) :=
  List.getElem?_eq_getElem _

/-- Key expansion consumes the first 72 bytes of the cyclic stream, four for each key word (R94). -/
theorem expand_congr_byteAt {k k' : Key} (h : ∀ n < 72, k.byteAt n = k'.byteAt n) : expand k = expand k' := by
  refine expand_congr fun i => ?_
  have hi := i.isLt
  rw [keyWord, keyWord, h _ (by omega), h _ (by omega), h _ (by omega), h _ (by omega)]

/-- A list written twice holds the list's entries, the index wrapping. -/
theorem getElem?_append_self {α : Type} {l : List α} {j : Nat} (hj : j < l.length + l.length) :
    (l ++ l)[j]? = l[j % l.length]? := by
  rcases Nat.lt_or_ge j l.length with hfirst | hsecond
  · rw [List.getElem?_append_left hfirst, Nat.mod_eq_of_lt hfirst]
  · rw [List.getElem?_append_right hsecond, Nat.mod_eq_sub_mod hsecond, Nat.mod_eq_of_lt (by omega)]

/-- Written twice, a key has the same cyclic stream (R100). -/
theorem Key.byteAt_of_twice {k k' : Key} (h : k'.bytes = k.bytes ++ k.bytes) (n : Nat) : k'.byteAt n = k.byteAt n := by
  have hpos : 0 < k.bytes.length := Nat.zero_lt_of_lt k.legal.1
  have hdvd : k.bytes.length ∣ k.bytes.length + k.bytes.length := Nat.dvd_add_self_left.2 dvd_rfl
  rw [← Option.some_inj, ← Key.getElem?_mod_length, ← Key.getElem?_mod_length, h, List.length_append,
    getElem?_append_self (Nat.mod_lt n (by omega)), Nat.mod_mod_of_dvd n hdvd]

/-- Settles O32: the key enters the schedule by its stream alone, and a key written twice has the stream of the key. -/
theorem sameCyclicStreamSameTables : Obligations.SameCyclicStreamSameTables := by
  refine ⟨fun k k' h => ?_, fun k k' h => expand_congr_byteAt fun n _ => Key.byteAt_of_twice h n⟩
  simp only [Key.getElem?_mod_length, Option.some_inj] at h
  exact expand_congr_byteAt h

/-! ### The encryptions of step 3 -/

/-- Within bounds the two ways to write a vector's entry agree. -/
theorem vector_set_eq_setIfInBounds {α : Type} {n i : Nat} (v : Vector α n) (a : α) (hi : i < n) :
    v.set i a hi = v.setIfInBounds i a := by
  ext j hj
  rw [Vector.getElem_set, Vector.getElem_setIfInBounds]

/-- The encryption of P pair n is number n + 1 (R95 (c)). -/
theorem expandPPair_eq_numberedEncryption (e : Expanding) (n : Fin 9) :
    expandPPair e n = numberedEncryption e (1 + n.val) := by
  have hn := n.isLt
  have hlow : 2 * (1 + n.val) - 2 = 2 * n.val := by omega
  have hhigh : 2 * (1 + n.val) - 1 = 2 * n.val + 1 := by omega
  rw [numberedEncryption, if_pos (by omega), hlow, hhigh, expandPPair]
  simp only [vector_set_eq_setIfInBounds]

/-- The encryption of pair m of S-box k is number 10 + 128 k + m (R95 (c)). -/
theorem expandSPair_eq_numberedEncryption (k : Fin 4) (e : Expanding) (m : Fin 128) :
    expandSPair k e m = numberedEncryption e (10 + 128 * k.val + m.val) := by
  have hm := m.isLt
  have hbox : (10 + 128 * k.val + m.val - 10) / 128 = k.val := by omega
  have hentry : (10 + 128 * k.val + m.val - 10) % 128 = m.val := by omega
  simp only [numberedEncryption, if_neg (show ¬ 10 + 128 * k.val + m.val ≤ 9 by omega), hbox, hentry, k.isLt, dif_pos]
  simp only [expandSPair, vector_set_eq_setIfInBounds]
  rfl

/-- A fold over the positions 0 to n - 1 is the fold over the n numbers from a on. -/
theorem foldl_finRange_eq_foldl_range' {α : Type} {n a : Nat} {f : α → Fin n → α} {g : α → Nat → α}
    (h : ∀ x i, f x i = g x (a + i.val)) (x : α) :
    (List.finRange n).foldl f x = (List.range' a n).foldl g x := by
  rw [List.range'_eq_map_range, ← List.map_coe_finRange_eq_range, List.foldl_map, List.foldl_map]
  exact List.foldl_ext _ _ _ fun y i _ => h y i

/-- The P-array takes encryptions 1 to 9 (R95). -/
theorem expandP_eq_foldl (e : Expanding) : expandP e = (List.range' 1 9).foldl numberedEncryption e :=
  foldl_finRange_eq_foldl_range' expandPPair_eq_numberedEncryption e

/-- S-box k takes the 128 encryptions from number 10 + 128 k on (R95). -/
theorem expandSBox_eq_foldl (e : Expanding) (k : Fin 4) :
    expandSBox e k = (List.range' (10 + 128 * k.val) 128).foldl numberedEncryption e :=
  foldl_finRange_eq_foldl_range' (expandSPair_eq_numberedEncryption k) e

/-- The S-boxes are filled in the order 0 to 3 (R95). -/
theorem expandS_eq (e : Expanding) :
    expandS e = expandSBox (expandSBox (expandSBox (expandSBox e 0) 1) 2) 3 := by
  have hfour : List.finRange 4 = [0, 1, 2, 3] := rfl
  rw [expandS, hfour]
  simp only [List.foldl_cons, List.foldl_nil]

/-- Step 3 starts from the mixed constants and the zero block, and S-box 3 comes last (R95). -/
theorem expandingEnd_eq (k : Key) :
    expandingEnd k =
      expandSBox (expandSBox (expandSBox (expandSBox
        (expandP ⟨mixKey k initialTables, ⟨0, 0⟩⟩) 0) 1) 2) 3 := by
  unfold expandingEnd
  exact expandS_eq _

/-- The 521 numbers in the parts that belong to the P-array and to each S-box (R95). -/
theorem range'_one_521 :
    List.range' 1 521 =
      List.range' 1 9 ++ List.range' 10 128 ++ List.range' 138 128 ++ List.range' 266 128 ++ List.range' 394 128 := by
  have hsplit : List.range' 1 (9 + 128 + 128 + 128 + 128) =
      List.range' 1 9 ++ List.range' (1 + 9) 128 ++ List.range' (1 + (9 + 128)) 128 ++
        List.range' (1 + (9 + 128 + 128)) 128 ++ List.range' (1 + (9 + 128 + 128 + 128)) 128 := by
    simp only [List.range'_append_1]
  exact hsplit

/-- Settles O30: each part of the schedule is its numbered encryptions, and the parts follow one another. -/
theorem keyScheduleIsTheNumberedEncryptions : Obligations.KeyScheduleIsTheNumberedEncryptions := by
  intro k
  rw [expandingEnd_eq, expandP_eq_foldl, range'_one_521]
  simp only [List.foldl_append, expandSBox_eq_foldl]
  rfl

/-- The output of an encryption stands in the pair it replaced, Left first (R95). -/
theorem expandSPair_block_eq_entries (k : Fin 4) (e : Expanding) (m : Fin 128) :
    (expandSPair k e m).block =
      ⟨(expandSPair k e m).tables.S[k][2 * m.val], (expandSPair k e m).tables.S[k][2 * m.val + 1]⟩ := by
  simp [expandSPair]

/-- Encryption 521 replaces the last pair of S-box 3 (R96). -/
theorem expandingEnd_eq_last_expandSPair (k : Key) :
    ∃ e : Expanding, expandingEnd k = expandSPair 3 e 127 := by
  rw [expandingEnd_eq, expandSBox, List.finRange_succ_last, List.foldl_concat]
  exact ⟨_, rfl⟩

/-- Settles O31: nothing is replaced after the last encryption. -/
theorem lastWorkingWordsAreTheLastEntries : Obligations.LastWorkingWordsAreTheLastEntries := by
  intro k
  obtain ⟨e, he⟩ := expandingEnd_eq_last_expandSPair k
  rw [expand, he]
  exact expandSPair_block_eq_entries 3 e 127

end Sys2Proof.Machine

/-! SUPPORT. Proof of the statement about the round function F (spec/41_f_function.md). -/

namespace Sys2Proof.Machine

/-- On a packed word, F looks up the bytes it was packed from, the most significant one in S-box 0 (R110, R135). -/
theorem roundF_pack32 (S : SBoxes) (b0 b1 b2 b3 : Byte) :
    roundF S (pack32 b0 b1 b2 b3) = ((sboxAt S[0] b0 + sboxAt S[1] b1) ^^^ sboxAt S[2] b2) + sboxAt S[3] b3 := by
  simp only [roundF, pack32_byte0, pack32_byte1, pack32_byte2, pack32_byte3]

/-- Settles O33: unpacking the bytes of a packed word gives them back, and each lookup is its S-box's entry. -/
theorem roundFunctionCombinesFourLookups : Obligations.RoundFunctionCombinesFourLookups :=
  roundF_pack32

end Sys2Proof.Machine

/-! SUPPORT. Proofs of the statements about encryption (spec/42_encrypt.md): the rounds without exchanges, the rounds of
decryption taken as the undoing of those of encryption, the block transforms as inverse maps, and the block commands. -/

namespace Sys2Proof.Machine

/-! ### The rounds without exchanges -/

/-- The P position of round r + 1 of encryption is r (R115). -/
theorem encRounds_getElem (r : Fin 16) : encRounds[r.val]'r.isLt = r.castLE (by decide) := by
  revert r; decide

/-- The halves after r rounds are the r-th terms of the two sequences of R116. -/
theorem foldl_take_encRounds {t : Tables} {x y : Nat → Word}
    (h : ∀ r : Fin 16, y (r.val + 1) = x r.val ^^^ t.P[r.val] ∧
      x (r.val + 1) = y r.val ^^^ roundF t.S (y (r.val + 1))) {r : Nat} (hr : r ≤ 16) :
    (encRounds.take r).foldl (feistelRound t) ⟨x 0, y 0⟩ = ⟨x r, y r⟩ := by
  induction r with
  | zero => rfl
  | succ r ih =>
    obtain ⟨hy, hx⟩ := h ⟨r, hr⟩
    have hround : feistelRound t ⟨x r, y r⟩ (encRounds[r]'hr) = ⟨x (r + 1), y (r + 1)⟩ := by
      rw [encRounds_getElem ⟨r, hr⟩, hx, hy]
      rfl
    rw [List.take_succ_eq_append_getElem hr, List.foldl_concat, ih (by omega), hround]

/-- Settles O34: all 16 rounds, then the output stage, which undoes the last exchange. -/
theorem encWordsWithoutSwaps : Obligations.EncWordsWithoutSwaps := by
  rintro t _ _ x y rfl rfl h
  have hrounds := foldl_take_encRounds h le_rfl
  rw [encWords]
  exact congrArg (outputStage t 16 17) hrounds

/-! ### The transforms of words undo each other -/

/-- The first round after an output stage takes off the round before it, and leaves an output stage one P word down
(R125, R128). -/
theorem feistelRound_outputStage (t : Tables) (x : Halves) (i j k : Fin 18) :
    feistelRound t (outputStage t k j (feistelRound t x i)) j = outputStage t i k x := by
  simp [feistelRound, outputStage, Halves.swap, BitVec.xor_assoc]

/-- Two output stages with the P words exchanged cancel (R128). -/
theorem outputStage_outputStage (t : Tables) (x : Halves) (i j : Fin 18) :
    outputStage t j i (outputStage t i j x) = x := by
  simp [outputStage, Halves.swap]

/-- The rounds of decryption take off those of encryption, the last one first, and the output stage takes off the two P
words that are left (R128). -/
theorem decWords_encWords (t : Tables) (x : Halves) : decWords t (encWords t x) = x := by
  simp only [decWords, encWords, encRounds, decRounds, List.foldl_cons, List.foldl_nil, feistelRound_outputStage,
    outputStage_outputStage]

/-- The same with the rounds of encryption taking off those of decryption (R128). -/
theorem encWords_decWords (t : Tables) (x : Halves) : encWords t (decWords t x) = x := by
  simp only [decWords, encWords, encRounds, decRounds, List.foldl_cons, List.foldl_nil, feistelRound_outputStage,
    outputStage_outputStage]

/-! ### Packing and unpacking undo each other -/

theorem unpack32_pack32 (b0 b1 b2 b3 : Byte) : unpack32 (pack32 b0 b1 b2 b3) = #v[b0, b1, b2, b3] := by
  simp only [unpack32, pack32_byte0, pack32_byte1, pack32_byte2, pack32_byte3]

theorem pack32_unpack32 (w : Word) :
    pack32 (unpack32 w)[0] (unpack32 w)[1] (unpack32 w)[2] (unpack32 w)[3] = w := by
  show w.extractLsb' 24 8 ++ w.extractLsb' 16 8 ++ w.extractLsb' 8 8 ++ w.extractLsb' 0 8 = w
  simp only [BitVec.extractLsb'_append_extractLsb'_eq_extractLsb', BitVec.extractLsb'_eq_self]

theorem packBlock_unpackBlock (x : Halves) : packBlock (unpackBlock x) = x :=
  congrArg₂ Halves.mk (pack32_unpack32 x.left) (pack32_unpack32 x.right)

theorem unpackBlock_packBlock (b : Block) : unpackBlock (packBlock b) = b := by
  rw [unpackBlock, packBlock_left, packBlock_right, unpack32_pack32, unpack32_pack32]
  refine Vector.ext fun i hi => ?_
  interval_cases i <;> rfl

/-! ### The transforms of blocks -/

theorem decBlock_encBlock (t : Tables) (b : Block) : decBlock t (encBlock t b) = b := by
  rw [decBlock, encBlock, packBlock_unpackBlock, decWords_encWords, unpackBlock_packBlock]

theorem encBlock_decBlock (t : Tables) (b : Block) : encBlock t (decBlock t b) = b := by
  rw [decBlock, encBlock, packBlock_unpackBlock, encWords_decWords, unpackBlock_packBlock]

/-- Settles O37: DecBlock is a left and a right inverse of EncBlock. -/
theorem encBlockIsABijection : Obligations.EncBlockIsABijection := by
  intro t
  have hleft : Function.LeftInverse (decBlock t) (encBlock t) := decBlock_encBlock t
  have hright : Function.RightInverse (decBlock t) (encBlock t) := encBlock_decBlock t
  refine ⟨⟨hleft.injective, hright.surjective⟩, ⟨hright.injective, hleft.surjective⟩, fun b c => ?_⟩
  constructor
  · rintro rfl; exact hleft b
  · rintro rfl; exact hright c

/-! ### The block commands -/

/-- ENCRYPT and DECRYPT are one operation, with a transform each (R118, R127). -/
theorem exec_blockCommand {i : Instr} (h : i = .encrypt ∨ i = .decrypt) :
    ∃ f : Tables → Block → Block, ∀ s : State, exec i s = .next (transformBlock f s) := by
  obtain rfl | rfl := h
  · exact ⟨encBlock, fun _ => rfl⟩
  · exact ⟨decBlock, fun _ => rfl⟩

/-- On a keyed engine a block command repeated changes nothing: it wrote nothing that it reads (R119 (c)). -/
theorem transformBlock_transformBlock {s : State} (h : s.keyed = true) (f : Tables → Block → Block) :
    transformBlock f (transformBlock f s) = transformBlock f s := by
  rw [transformBlock_of_keyed h]
  have hkeyed : (succeed { s with dout := f s.tables s.din }).keyed = true := h
  exact transformBlock_of_keyed hkeyed f

/-- Settles O41: the transform is of the tables and DIN alone, and the command leaves both. -/
theorem blockCommandsKeepNoChainingState : Obligations.BlockCommandsKeepNoChainingState := by
  intro i s t hi hs ht htables hdin
  obtain ⟨f, hexec⟩ := exec_blockCommand hi
  refine ⟨_, _, hexec s, hexec t, ?_, ?_⟩
  · rw [transformBlock_of_keyed hs, transformBlock_of_keyed ht, htables, hdin]
    rfl
  · rw [hexec, transformBlock_transformBlock hs]

/-- Writing 0x02 to CMD is ENCRYPT (R71). -/
theorem perform_write_encrypt (s : State) : perform (.write cmdAddr 0x02#8) s = exec .encrypt s :=
  (perform_command _ s).trans (runCommand_encode .encrypt s)

/-- Settles O38: the two sides of the test of KEYED. -/
theorem encryptWritesTheCiphertext : Obligations.EncryptWritesTheCiphertext := by
  intro s
  refine ⟨perform_write_encrypt s, fun h => ?_, fun h => ?_⟩
  · exact congrArg Host.Outcome.next (transformBlock_of_keyed h encBlock)
  · exact congrArg Host.Outcome.next (transformBlock_of_unkeyed h encBlock)

end Sys2Proof.Machine

/-! SUPPORT. Proofs of the statements about decryption (spec/43_decrypt.md): the reading of P backwards, the inverse
property, the round trip through the registers, and the command DECRYPT. -/

namespace Sys2Proof.Machine

/-! ### P read backwards -/

/-- A round reads of the tables S and the one P word at its position (R115). -/
theorem feistelRound_congr {t t' : Tables} (hS : t.S = t'.S) {i j : Fin 18} (hP : t.P[i] = t'.P[j]) (x : Halves) :
    feistelRound t x i = feistelRound t' x j := by
  rw [feistelRound, feistelRound, hS, hP]

/-- The output stage reads of the tables the two P words at its positions. -/
theorem outputStage_congr {t t' : Tables} {i i' j j' : Fin 18} (hi : t.P[i] = t'.P[i']) (hj : t.P[j] = t'.P[j'])
    (x : Halves) : outputStage t i j x = outputStage t' i' j' x := by
  rw [outputStage, outputStage, hi, hj]

/-- Decryption takes the P positions of encryption counted from the other end (R125). -/
theorem decRounds_eq_map_rev : decRounds = encRounds.map Fin.rev := by decide

/-- Settles O35: each round and the output stage read the same P words. -/
theorem decWordsIsEncWordsWithReversedP : Obligations.DecWordsIsEncWordsWithReversedP := by
  intro t t' x hS hP
  have hrev (i : Fin 18) : t.P[i.rev] = t'.P[i] := by
    simp only [hP, Fin.getElem_fin, Fin.val_rev, Nat.reduceSubDiff]
  have hround : (fun y i => feistelRound t y (Fin.rev i)) = feistelRound t' :=
    funext₂ fun y i => feistelRound_congr hS.symm (hrev i) y
  rw [decWords, encWords, decRounds_eq_map_rev, List.foldl_map, hround]
  exact outputStage_congr (hrev 16) (hrev 17) _

/-! ### The inverse property -/

/-- Settles O36: words and blocks, either transform first. -/
theorem transformsAreInverse : Obligations.TransformsAreInverse := fun t =>
  ⟨fun x => ⟨decWords_encWords t x, encWords_decWords t x⟩, fun b => ⟨decBlock_encBlock t b, encBlock_decBlock t b⟩⟩

/-! ### The round trip through the registers -/

/-- One block command, the host's copy of DOUT to DIN, then the command whose transform undoes the first: the first command
left KEYED and the tables as they were, so the second reads what it needs (R30, R120). -/
theorem transformBlock_roundTrip {f g : Tables → Block → Block} {s : State} (hkeyed : s.keyed = true)
    (hinv : g s.tables (f s.tables s.din) = s.din) :
    transformBlock g { transformBlock f s with din := (transformBlock f s).dout } =
      { s with din := f s.tables s.din, dout := s.din, err := 0 } := by
  have hcopy : { transformBlock f s with din := (transformBlock f s).dout } =
      { s with din := f s.tables s.din, dout := f s.tables s.din, err := 0 } := by
    rw [transformBlock_of_keyed hkeyed]; rfl
  rw [hcopy, transformBlock_of_keyed]
  · simp only [hinv]; rfl
  · exact hkeyed

/-- Settles O40: the round trip for each order of the two commands. -/
theorem registerRoundTripReturnsTheBlock : Obligations.RegisterRoundTripReturnsTheBlock := by
  intro s hkeyed
  have henc := transformBlock_roundTrip hkeyed (decBlock_encBlock s.tables s.din)
  have hdec := transformBlock_roundTrip hkeyed (encBlock_decBlock s.tables s.din)
  exact ⟨⟨_, _, rfl, congrArg Host.Outcome.next henc, rfl, rfl, rfl⟩,
    ⟨_, _, rfl, congrArg Host.Outcome.next hdec, rfl, rfl, rfl⟩⟩

/-! ### The command DECRYPT -/

/-- Writing 0x03 to CMD is DECRYPT (R71). -/
theorem perform_write_decrypt (s : State) : perform (.write cmdAddr 0x03#8) s = exec .decrypt s :=
  (perform_command _ s).trans (runCommand_encode .decrypt s)

/-- Settles O39: the two sides of the test of KEYED. -/
theorem decryptWritesThePlaintext : Obligations.DecryptWritesThePlaintext := by
  intro s
  refine ⟨perform_write_decrypt s, fun h => ?_, fun h => ?_⟩
  · exact congrArg Host.Outcome.next (transformBlock_of_keyed h decBlock)
  · exact congrArg Host.Outcome.next (transformBlock_of_unkeyed h decBlock)

end Sys2Proof.Machine

/-! SUPPORT. Proofs of the statements about packing (spec/44_packing.md): packed words as numbers, blocks as two packed words,
and the bytes of the key words. -/

namespace Sys2Proof.Machine

/-! ### Packing as numbers -/

/-- Appending a byte below a bit string is one step of Horner's scheme in base 256. -/
theorem toNat_append_byte {w : Nat} (x : BitVec w) (b : Byte) : (x ++ b).toNat = x.toNat * 256 + b.toNat := by
  rw [BitVec.toNat_append, ← Nat.shiftLeft_add_eq_or_of_lt b.isLt, Nat.shiftLeft_eq]

/-- Settles O42: three steps of Horner's scheme, multiplied out. -/
theorem packIsBigEndian : Obligations.PackIsBigEndian := by
  intro b0 b1 b2 b3
  have horner : (pack32 b0 b1 b2 b3).toNat = ((b0.toNat * 256 + b1.toNat) * 256 + b2.toNat) * 256 + b3.toNat := by
    rw [pack32, toNat_append_byte, toNat_append_byte, toNat_append_byte]
  rw [horner]
  ring

/-- Bits n + 7 down to n of a word, as a number. -/
theorem toNat_extractByte (w : Word) (n : Nat) : (w.extractLsb' n 8).toNat = w.toNat / 2 ^ n % 256 := by
  rw [BitVec.extractLsb'_toNat, Nat.shiftRight_eq_div_pow]

theorem unpack32_toNat (w : Word) : (unpack32 w).toList.map (·.toNat) =
    [w.toNat / 2 ^ 24 % 256, w.toNat / 2 ^ 16 % 256, w.toNat / 2 ^ 8 % 256, w.toNat % 256] := by
  have hlow : (w.extractLsb' 0 8).toNat = w.toNat % 256 := by rw [toNat_extractByte, Nat.pow_zero, Nat.div_one]
  rw [← hlow, ← toNat_extractByte, ← toNat_extractByte, ← toNat_extractByte]
  rfl

/-- Settles O43: the bytes of a word as numbers, and the two directions of the inverse. -/
theorem unpackUndoesPack : Obligations.UnpackUndoesPack :=
  ⟨unpack32_toNat, unpack32_pack32, pack32_unpack32⟩

/-! ### Blocks -/

theorem unpackBlock_toList (x : Halves) :
    (unpackBlock x).toList = (unpack32 x.left).toList ++ (unpack32 x.right).toList :=
  Vector.toList_append

/-- Settles O44: the order of the bytes in either direction, and the two directions of the inverse. -/
theorem blockPackingIsConsistent : Obligations.BlockPackingIsConsistent :=
  ⟨fun _ => rfl, unpackBlock_toList, packBlock_unpackBlock, unpackBlock_packBlock⟩

/-! ### Key words -/

/-- Byte c of a key word, from bits 31:24 down, is the byte of the cyclic stream c places after the word's base (R138). -/
theorem keyWord_extractByte (k : Key) (i : Fin 18) (c : Fin 4) :
    (keyWord k i).extractLsb' (24 - 8 * c.val) 8 = k.byteAt (4 * i.val + c.val) := by
  match c with
  | 0 => exact pack32_byte0 ..
  | 1 => exact pack32_byte1 ..
  | 2 => exact pack32_byte2 ..
  | 3 => exact pack32_byte3 ..

/-- Settles O28: each byte of a key word is a byte of the cyclic stream, whose index wraps at the key's length. -/
theorem keyWordWrapsPerByte : Obligations.KeyWordWrapsPerByte := by
  intro k i c
  rw [keyWord_extractByte, Key.getElem?_mod_length]

end Sys2Proof.Machine

/-! SUPPORT. Proofs of the statements about dispatch and the control commands (spec/45_control_commands.md): a step at a
write to CMD, NOP, and DROP with the block commands after it. -/

namespace Sys2Proof.Machine

/-! ### Dispatch -/

/-- The next event being a write to CMD, the step is the command of the byte (R58, R143). -/
theorem step_of_nextIsCommand {s : State} {v : Byte} {rest : List HostEvent} (h : nextIsCommand s v rest) :
    step s = runCommand v { s with pending := rest } :=
  (step_of_event h).trans (perform_command v _)

/-- The host lays down a command word by presenting its byte to CMD, ahead of everything it has queued. -/
theorem withFetchWord_toNat (s : State) (v : Byte) : s.withFetchWord 8 v.toNat = presentCommand v s := by
  have hword : BitVec.ofNat 8 (v.toNat % 2 ^ 8) = v := by
    rw [Nat.mod_eq_of_lt v.isLt, BitVec.ofNat_toNat, BitVec.setWidth_eq]
  rw [State.withFetchWord, hword]

/-- Settles O5: the command of the byte, for a command's opcode, for any other byte and for the word laid down. -/
theorem stepRunsTheDecodedCommand : Obligations.StepRunsTheDecodedCommand := by
  intro s v rest
  refine ⟨fun hnext => ⟨fun i hd => ?_, fun hd => ?_⟩, fun i hd => ?_⟩
  · rw [step_of_nextIsCommand hnext, runCommand_of_ok hd]
  · rw [step_of_nextIsCommand hnext, runCommand_of_illegal hd]
    rfl
  · have hnext : nextIsCommand (presentCommand v s) v s.pending := presentCommand_pending v s
    rw [withFetchWord_toNat, step_of_nextIsCommand hnext, runCommand_of_ok hd]
    rfl

/-! ### NOP and DROP -/

/-- Writing 0x00 to CMD is NOP (R71). -/
theorem perform_write_nop (s : State) : perform (.write cmdAddr 0x00#8) s = exec .nop s :=
  (perform_command _ s).trans (runCommand_encode .nop s)

/-- Writing 0x04 to CMD is DROP (R71). -/
theorem perform_write_drop (s : State) : perform (.write cmdAddr 0x04#8) s = exec .drop s :=
  (perform_command _ s).trans (runCommand_encode .drop s)

/-- Settles O15: NOP is a success and nothing more, and 0x00 is its opcode. -/
theorem nopOnlyClearsErr : Obligations.NopOnlyClearsErr :=
  fun s => ⟨exec_nop s, (perform_write_nop s).trans (exec_nop s)⟩

/-- Settles O16: the tables lost are the next draw of free values, and 0x04 is DROP's opcode. -/
theorem dropEndsTheInstance : Obligations.DropEndsTheInstance :=
  fun s => ⟨Tables.unspecified s.draws, s.draws + 1, exec_drop s, (perform_write_drop s).trans (exec_drop s)⟩

/-- Without an instance a block command raises NoInstance (R164). -/
theorem exec_blockCommand_of_unkeyed {i : Instr} (hi : i = .encrypt ∨ i = .decrypt) {s : State}
    (h : s.keyed = false) : exec i s = .next (raise .noInstance s) := by
  obtain ⟨f, hexec⟩ := exec_blockCommand hi
  rw [hexec, transformBlock_of_unkeyed h]

/-- Settles O17: DROP leaves no instance, so the block commands raise NoInstance; DROP does not write DOUT. -/
theorem afterDropNoBlockIsTransformed : Obligations.AfterDropNoBlockIsTransformed := by
  intro s
  have hunkeyed : (succeed (loseTables { s with keyed := false })).keyed = false := rfl
  exact ⟨_, exec_drop s, exec_blockCommand_of_unkeyed (.inl rfl) hunkeyed,
    exec_blockCommand_of_unkeyed (.inr rfl) hunkeyed, rfl⟩

end Sys2Proof.Machine

/-! SUPPORT. Proof of the statement about the constants (spec/46_pi_constants.md R156): the checks of each table, and those
of a concatenation from those of its parts. -/

namespace Sys2Proof.Machine

/-- The columns of R156's table of checks that speak of all the words of a list: their number, exclusive-or and sum. -/
structure WordChecks (ws : List Word) (count : Nat) (xor sum : Word) : Prop where
  length : ws.length = count
  foldl_xor : ws.foldl (· ^^^ ·) 0 = xor
  foldl_sum : ws.foldl (· + ·) 0 = sum

/-- A fold of an associative operation from 0, its right unit, takes a concatenation to the operation on the two folds. -/
theorem foldl_append_of_op_zero (op : Word → Word → Word) [Std.Associative op] (hzero : ∀ x, op x 0 = x)
    (us vs : List Word) : (us ++ vs).foldl op 0 = op (us.foldl op 0) (vs.foldl op 0) := by
  rw [List.foldl_append, ← List.foldl_assoc (op := op), hzero]

/-- The checks of a concatenation are made of those of its parts, so the last row of R156 needs no fold of its own. -/
theorem WordChecks.append {us vs : List Word} {m n : Nat} {x y a b : Word} (hu : WordChecks us m x a)
    (hv : WordChecks vs n y b) : WordChecks (us ++ vs) (m + n) (x ^^^ y) (a + b) where
  length := by rw [List.length_append, hu.length, hv.length]
  foldl_xor := by
    rw [foldl_append_of_op_zero (· ^^^ ·) (fun _ => BitVec.xor_zero), hu.foldl_xor, hv.foldl_xor]
  foldl_sum := by
    rw [foldl_append_of_op_zero (· + ·) BitVec.add_zero, hu.foldl_sum, hv.foldl_sum]

theorem piPWords_checks : WordChecks piPWords 18 0xB73AD7EA#32 0x8E4D14CC#32 :=
  ⟨by decide +kernel, by decide +kernel, by decide +kernel⟩

theorem piS0Words_checks : WordChecks piS0Words 256 0x4EB4DB7F#32 0x4B745115#32 :=
  ⟨by decide +kernel, by decide +kernel, by decide +kernel⟩

theorem piS1Words_checks : WordChecks piS1Words 256 0xC727E122#32 0x72FF37B2#32 :=
  ⟨by decide +kernel, by decide +kernel, by decide +kernel⟩

theorem piS2Words_checks : WordChecks piS2Words 256 0x462A5D01#32 0x2AC02B91#32 :=
  ⟨by decide +kernel, by decide +kernel, by decide +kernel⟩

theorem piS3Words_checks : WordChecks piS3Words 256 0x1779E2BC#32 0xF43E3A88#32 :=
  ⟨by decide +kernel, by decide +kernel, by decide +kernel⟩

/-- The last row of R156: its exclusive-or and sum are those of the five rows above it. -/
theorem allPiWords_checks : WordChecks (piPWords ++ piS0Words ++ piS1Words ++ piS2Words ++ piS3Words) 1042
    0x6FFA520A#32 0x6BBF03AC#32 :=
  (((piPWords_checks.append piS0Words_checks).append piS1Words_checks).append piS2Words_checks).append piS3Words_checks

/-- Settles O58, row by row: the checks of a table's words, then its first and last word; the last row is the checks of
all the words. -/
theorem piTableChecks : Obligations.PiTableChecks :=
  ⟨⟨piPWords_checks.length, piPWords_checks.foldl_xor, piPWords_checks.foldl_sum, rfl, rfl⟩,
    ⟨piS0Words_checks.length, piS0Words_checks.foldl_xor, piS0Words_checks.foldl_sum, rfl, rfl⟩,
    ⟨piS1Words_checks.length, piS1Words_checks.foldl_xor, piS1Words_checks.foldl_sum, rfl, rfl⟩,
    ⟨piS2Words_checks.length, piS2Words_checks.foldl_xor, piS2Words_checks.foldl_sum, rfl, rfl⟩,
    ⟨piS3Words_checks.length, piS3Words_checks.foldl_xor, piS3Words_checks.foldl_sum, rfl, rfl⟩,
    allPiWords_checks.length, allPiWords_checks.foldl_xor, allPiWords_checks.foldl_sum⟩

end Sys2Proof.Machine

/-! SUPPORT. Proofs of the statements about errors (spec/60_exceptions.md): a command that fails is an error raised and
nothing else, and the block commands without an instance raise NoInstance. -/

namespace Sys2Proof.Machine

/-! ### A failing command -/

/-- A completed command has succeeded, or has raised an error and done nothing else (R165). -/
theorem exec_succeeds_or_raises {i : Instr} {s t : State} (h : exec i s = .next t) :
    t.err = 0 ∨ ∃ e : EngineError, t = raise e s := by
  obtain ⟨-, rfl⟩ | ⟨-, rfl⟩ | ⟨-, k, -, rfl⟩ | ⟨-, -, rfl⟩ | ⟨-, -, rfl⟩ | ⟨-, -, rfl⟩ | ⟨-, -, rfl⟩ :=
    exec_next_cases h
  · exact .inl (succeed_err _)
  · exact .inl (succeed_err _)
  · exact .inl (succeed_err _)
  · exact .inr ⟨.invalidKeyLength, rfl⟩
  · exact .inl (succeed_err _)
  · exact .inl (succeed_err _)
  · exact .inr ⟨.noInstance, rfl⟩

/-- The same of any byte written to CMD: an illegal opcode raises IllegalCommand (R142). -/
theorem runCommand_succeeds_or_raises {v : Byte} {s t : State} (h : runCommand v s = .next t) :
    t.err = 0 ∨ ∃ e : EngineError, t = raise e s := by
  obtain ⟨i, -, rfl⟩ | ⟨-, hillegal⟩ := decode_cases v
  · rw [runCommand_encode] at h
    exact exec_succeeds_or_raises h
  · rw [runCommand_of_illegal hillegal] at h
    cases h
    exact .inr ⟨.illegalCommand, rfl⟩

/-- Settles O19: the failing command has raised an error, and raising an error writes ERR alone. -/
theorem failingCommandChangesOnlyErr : Obligations.FailingCommandChangesOnlyErr := by
  intro v s t h herr
  rw [perform_command] at h
  obtain ⟨e, rfl⟩ := (runCommand_succeeds_or_raises h).resolve_left herr
  rfl

/-! ### The block commands without an instance -/

/-- Settles O18: both block commands raise NoInstance, whose code is 3. -/
theorem blockCommandsWithoutInstanceRaiseNoInstance : Obligations.BlockCommandsWithoutInstanceRaiseNoInstance :=
  fun s h => ⟨(perform_write_encrypt s).trans (exec_blockCommand_of_unkeyed (.inl rfl) h),
    (perform_write_decrypt s).trans (exec_blockCommand_of_unkeyed (.inr rfl) h)⟩

end Sys2Proof.Machine

/-! SUPPORT. Proofs of the statements about reset (spec/70_reset_and_hazards.md): a reset as the next host event, and a
clock edge with `rst` = 1. -/

namespace Sys2Proof.Machine

/-- A reset at the head of the queue is performed on the engine whose queue is the rest (R58, R180). -/
theorem step_of_nextIsReset {s : State} {rest : List HostEvent} (h : s.pending = .reset :: rest) :
    step s = .next (performReset { s with pending := rest }) :=
  (step_of_event h).trans (perform_reset _)

/-- `rst` wins over a presented access and over its wait states: the edge is a reset event, and not ready (R180, R181). -/
theorem clockEdge_of_rst (p : PinState) {i : PinIn} (h : i.rst = true) :
    clockEdge p i = .next (⟨performReset p.engine, 0⟩, ⟨false, none⟩) :=
  if_pos h

/-- Settles O14: the reset takes the next draw of free values for the tables. -/
theorem resetEventLeavesTheResetState : Obligations.ResetEventLeavesTheResetState :=
  fun s _ hnext => ⟨Tables.unspecified s.draws, s.draws + 1, step_of_nextIsReset hnext⟩

/-- Settles O53: the edge is the same reset event, whatever access is presented and however long it has waited. -/
theorem resetPinAbandonsTheCommand : Obligations.ResetPinAbandonsTheCommand :=
  fun p _ hrst => ⟨Tables.unspecified p.engine.draws, p.engine.draws + 1, clockEdge_of_rst p hrst⟩

end Sys2Proof.Machine
